-- ==== Sys2Proof/Word.lean ====
section
/-! DEFINITION. The words of the LQ-412: what the manual shifts, wraps or shows to the host as bits (00 section 4.2, R202). -/

namespace Sys2Proof

/-- One byte of a Local Link record or of a notice's payload (R180, R201). -/
abbrev Byte := BitVec 8

/-- An epoch number, 0..65,535, which wraps (R93). -/
abbrev Epoch := BitVec 16

/-- The host's 32-bit name for an extent (R148). -/
abbrev Token := BitVec 32

/-- A set of station numbers: the bit of value 2^s stands for station s (R96, R202). -/
abbrev StationSet := BitVec 16

/-- A frame number, 0..4,095, which wraps (R174). -/
abbrev FrameNo := BitVec 12

/-- A station number, 0..15 (R187). -/
abbrev Station := Fin 16

end Sys2Proof
end

