-- ==== Sys2Proof/Config.lean ====
section
/-! DEFINITION. What an implementation or a CONFIGURE fixes: the sixteen configured values (R188) and the fixed sizes of the part.
The manual leaves no result of a command undefined, so no free value stands here. -/

namespace Sys2Proof

/-- The sixteen fields of CONFIGURE in the order of their indexes (10.4, R188). In a CONFIGURE command they are the numbers as sent;
in the state they are the accepted values. -/
structure Settings where
  /-- F, 1..60 s. -/
  frameLength : Nat
  /-- In hundreds of kbit/s: 1, 2 or 4 (R202). -/
  lineRate : Nat
  /-- w, 0..8 eighths. -/
  heldWeight : Nat
  /-- g, 0..1,048,575 frames. -/
  grace : Nat
  /-- 1..65,535 AU. -/
  reportStep : Nat
  /-- 1..255 notices per frame. -/
  digestBatch : Nat
  /-- 0..255 ms. -/
  digestGap : Nat
  /-- G, 2..255 frames. -/
  goneAge : Nat
  /-- 1..255 frames. -/
  askLimit : Nat
  /-- 1..255 frames. -/
  closeLimit : Nat
  /-- The restore idle limit, 1..255 frames. -/
  idleLimit : Nat
  /-- C, 1..65,535 AU per frame. -/
  capacity : Nat
  /-- 1..65,535 frames. -/
  windowLimit : Nat
  /-- U, 64..6,144. -/
  userRecords : Nat
  /-- P, 256..8,192. -/
  holdRecords : Nat
  /-- D, 64..1,024. -/
  dupEntries : Nat
deriving DecidableEq, Repr

namespace Config

/-- The largest space figure, 2^28 - 1 AU (00 section 4.1). -/
def maxAU : Nat := 268435455

/-- The most units of a restore (R7, R135). -/
def maxRestore : Nat := 1048575

/-- The most units of one extent (R148). -/
def maxExtent : Nat := 4096

/-- The words of the Record Store (00 section 2.1, R188). -/
def recordStoreWords : Nat := 98304

/-- The most entries of a remote list (R3). -/
def remoteSlots : Nat := 4

/-- The most users on the watch list (R21). -/
def watchSlots : Nat := 4

/-- The most notices in the outbound queue (R59). -/
def outboundSlots : Nat := 8

/-- The most USAGE notices in the outbound queue (R59). -/
def usageSlots : Nat := 4

/-- The most notices in the receive queue (R62). -/
def receiveSlots : Nat := 4

/-- The most catalogue entries (R95). -/
def catalogueSlots : Nat := 64

/-- The most cause records (R193). -/
def causeSlots : Nat := 32

/-- The attempts after which a notice is dropped (R57). -/
def maxAttempts : Nat := 3

/-- The failed sends after which a duplication entry is dropped (R167). -/
def maxFailures : Nat := 3

/-- The span of the catalogue (R94). -/
def span : Nat := 32767

/-- The cycles of one second of either source (R173). -/
def cyclesPerSecond : Nat := 10000000

/-- The cycles a fallback adds (R175). -/
def fallbackAdvance : Nat := 500

end Config
end Sys2Proof
end

