-- ==== Sys2Proof/Syntax.lean ====
section
/-! DEFINITION. The commands of the block: one constructor of Instr for each row of spec/opcode_table.json, with the fields the manual gives the
request (R202) or the facts of the event that the part itself observes (a sampled frame, a slot, a strap). -/

namespace Sys2Proof

/-- The requests that act on user records, class 1 clients of the Quota Table's arbiter (R183), with their fields as sent (R202). -/
inductive Access where
  | charge (user n : Nat)
  | credit (user n : Nat)
  | userLoad (user soft hard live : Nat)
  | userLimits (user soft hard : Nat)
  | userFreeze (user : Nat)
  | userThaw (user : Nat)
  | userRetire (user : Nat)
  | userQuery (user : Nat)
  | userResync (user : Nat)
  | userWatch (user : Nat)
  | userUnwatch (user : Nat)
  | hold (user : Nat) (epoch : Epoch) (n : Nat)
  | restoreBegin (user : Nat) (epoch : Epoch) (n : Nat)
  | restoreProgress (handle k : Nat)
  | restoreEnd (handle : Nat)
deriving DecidableEq, Repr

/-- The mode of SNAP-QUERY (R114). -/
inductive SnapMode where
  | exact
  | first
  | next
deriving DecidableEq, Repr

/-- The wire or wires found low at a stuck line (R65). -/
inductive Wires where
  | cl
  | dl
  | both
deriving DecidableEq, Repr

/-- How a frame is broken (R54). -/
inductive FrameBreak where
  /-- A start inside the frame. -/
  | byStart
  /-- A stop inside the frame. -/
  | byStop
  /-- A fall of CL after slot R where the stop should be. -/
  | overlong
deriving DecidableEq, Repr

/-- What a receiver sampled of a frame up to the end of its check (R52): the header's three fields, the payload bytes that the kind
gives, and the check. Of a frame of unknown kind only the header is read. -/
structure SampledFrame where
  priority : BitVec 2
  kind : BitVec 4
  station : Station
  payload : List Byte
  check : Byte
deriving DecidableEq, Repr

/-- The commands. Each is one event, whole and indivisible (95). -/
inductive Instr where
  /-- R191. `refclk`: whether the REFCLK input is driven (R178). -/
  | powerOn (refclk : Bool)
  /-- R191: a fall of RESET. -/
  | resetPinAssert
  /-- R187: the rise of RESET, or the end of power-on, with the straps ADDR3..ADDR0. -/
  | resetPinRelease (straps : Station)
  /-- R181: a fall of LSEL. -/
  | transactionStart
  /-- R182: a rise of LSEL after `edges` rising edges of LCLK while LSEL was low; `ldi` is the number that the samples of LDI at those edges
  spell in binary, the first sample most significant (R180). -/
  | linkTransactionOther (edges ldi : Nat)
  /-- R183: a rise of LSEL that ends a transaction carrying this Quota Table request. -/
  | localRequestTaken (request : Access)
  /-- R185: a rise of LSEL that ends a transaction carrying NOP; so for every request below that is taken at once. -/
  | nop
  /-- R188, R189. -/
  | configure (settings : Settings)
  /-- R190. -/
  | restart
  /-- R192. -/
  | stationQuery
  /-- R199. -/
  | readCause
  /-- R176. -/
  | timebaseRetry
  /-- R27: the access of the waiting request; so for the fourteen after it. -/
  | charge (user n : Nat)
  /-- R28. -/
  | credit (user n : Nat)
  /-- R29. -/
  | userLoad (user soft hard live : Nat)
  /-- R31. -/
  | userLimits (user soft hard : Nat)
  /-- R32. -/
  | userFreeze (user : Nat)
  /-- R33. -/
  | userThaw (user : Nat)
  /-- R34. -/
  | userRetire (user : Nat)
  /-- R38. -/
  | userQuery (user : Nat)
  /-- R39. -/
  | userResync (user : Nat)
  /-- R40. -/
  | userWatch (user : Nat)
  /-- R41. -/
  | userUnwatch (user : Nat)
  /-- R120. -/
  | hold (user : Nat) (epoch : Epoch) (n : Nat)
  /-- R136. -/
  | restoreBegin (user : Nat) (epoch : Epoch) (n : Nat)
  /-- R137. -/
  | restoreProgress (handle k : Nat)
  /-- R140. -/
  | restoreEnd (handle : Nat)
  /-- R142: the oldest class 1 client, an idle-timeout release, is served. -/
  | idleTimeoutRelease
  /-- R146: the oldest class 1 client, a release of RESTART, is served. -/
  | restartRelease
  /-- R91. -/
  | peerQuery (station : Nat)
  /-- R88. -/
  | peerDrop (station : Nat)
  /-- R87. -/
  | digestHold
  /-- R87. -/
  | digestResume
  /-- R99. -/
  | snapTake
  /-- R105. -/
  | snapReady (epoch : Epoch)
  /-- R114. -/
  | snapQuery (epoch : Epoch) (mode : SnapMode)
  /-- R122. -/
  | snapExpire (epoch : Epoch) (discard : Bool)
  /-- R151. -/
  | dupExtent (epoch : Epoch) (token : Token) (units : Nat)
  /-- R153. -/
  | dupEnd (epoch : Epoch)
  /-- R154. -/
  | dupHalt
  /-- R155. -/
  | windowOpen
  /-- R156. -/
  | windowClose
  /-- R163. -/
  | grantTake
  /-- R166, R167. -/
  | grantDone (handle : Nat) (failed : Bool)
  /-- R169. -/
  | dupQuery
  /-- R173. `windowFirst`: the Duplication Unit's offer of SHARE is taken before the Peer View's offer of PRESENCE; the manual gives
  no order between the two blocks. -/
  | frameBoundary (windowFirst : Bool)
  /-- R72. -/
  | peerGoneAge (station : Station)
  /-- R110. -/
  | askTimerExpiry
  /-- R111. -/
  | closeTimerExpiry (epoch : Epoch)
  /-- R141. -/
  | idleLimitReached (slot : Fin 8)
  /-- R160. -/
  | windowLimitExpiry
  /-- R83. -/
  | gapTimerReached
  /-- R19. -/
  | graceScanVisit
  /-- R82. -/
  | digestSweepVisit
  /-- R127. -/
  | expirySweepStep
  /-- R89. -/
  | dropSweepStep
  /-- R76: the notice at the head of the receive queue is handled; so for the five receipts after it. -/
  | usageReceipt
  /-- R101 to R103. -/
  | epochProposeReceipt
  /-- R106, R107. -/
  | epochReadyReceipt
  /-- R104. -/
  | epochLatestReceipt
  /-- R71. -/
  | shareReceipt
  /-- R70, R104. -/
  | presenceReceipt
  /-- R49. -/
  | noticeSendStart
  /-- R50: the header bit, counted from 0, at which this station sent a 1 and sampled a 0. -/
  | arbitrationLost (bit : Nat)
  /-- R51: the bit of the frame, counted from 0 with the header, at which this station sent a 1 and sampled a 0. -/
  | stationNumberClash (bit : Nat)
  /-- R57: whether DL was low in slot A and in slot R. -/
  | sendAttemptEnd (slotA slotR : Bool)
  /-- R37. -/
  | retiringRecordFreed (user : Nat)
  /-- R85. -/
  | reportDueAfterLoss (user : Nat)
  /-- R53. -/
  | noticeVerdict (frame : SampledFrame)
  /-- R55. -/
  | stretchTimeout
  /-- R55. -/
  | stretchEntryFreed
  /-- R62. `stepServed`: the waiting drop sweep step was already being served at the stop (R90). -/
  | noticeAvailable (stepServed : Bool)
  /-- R54. -/
  | frameBroken (how : FrameBreak)
  /-- R64. -/
  | strayClocking
  /-- R64. -/
  | busyTimeout
  /-- R46. -/
  | idleGapEnd
  /-- R63. -/
  | attachmentEnd
  /-- R65. -/
  | lineStuck (wires : Wires)
  /-- R66. -/
  | lineRestored
  /-- R175. `count`: the frame timer's count when the fallback comes; `windowFirst` as in frameBoundary, for a boundary that comes with it. -/
  | referenceFallback (count : Nat) (windowFirst : Bool)
  /-- R172. -/
  | referenceEdgeReturns
  /-- R49, R52. -/
  | anotherStationStart
  /-- R51: the attempt met another station's start (`byStart`) or stop. -/
  | attemptAbandoned (byStart : Bool)
  /-- R181. -/
  | replyDelivered
  /-- R172. -/
  | referenceMonitorAbsent
deriving DecidableEq, Repr

end Sys2Proof
end

