-- ==== Sys2Proof/WellFormed.lean ====
section
/-! DEFINITION. Which commands can be sent: the numbers fit the widths of the request records (R202), and the facts of a line event fit
the frame they speak of (R47). -/

namespace Sys2Proof

/-- Fits a field of n bytes (R202). -/
def fitsBytes (n v : Nat) : Bool := v < 256 ^ n

/-- The fields of an access fit their widths (R202). -/
def Access.wf : Access → Bool
  | .charge u n => fitsBytes 3 u && fitsBytes 2 n
  | .credit u n => fitsBytes 3 u && fitsBytes 4 n
  | .userLoad u s h l => fitsBytes 3 u && fitsBytes 4 s && fitsBytes 4 h && fitsBytes 4 l
  | .userLimits u s h => fitsBytes 3 u && fitsBytes 4 s && fitsBytes 4 h
  | .userFreeze u => fitsBytes 3 u
  | .userThaw u => fitsBytes 3 u
  | .userRetire u => fitsBytes 3 u
  | .userQuery u => fitsBytes 3 u
  | .userResync u => fitsBytes 3 u
  | .userWatch u => fitsBytes 3 u
  | .userUnwatch u => fitsBytes 3 u
  | .hold u _ n => fitsBytes 3 u && fitsBytes 4 n
  | .restoreBegin u _ n => fitsBytes 3 u && fitsBytes 3 n
  | .restoreProgress h k => fitsBytes 1 h && fitsBytes 3 k
  | .restoreEnd h => fitsBytes 1 h

/-- The fields of CONFIGURE fit their widths (R202). -/
def Settings.wf (c : Settings) : Bool :=
  fitsBytes 1 c.frameLength && fitsBytes 1 c.lineRate && fitsBytes 1 c.heldWeight && fitsBytes 3 c.grace &&
  fitsBytes 2 c.reportStep && fitsBytes 1 c.digestBatch && fitsBytes 1 c.digestGap && fitsBytes 1 c.goneAge &&
  fitsBytes 1 c.askLimit && fitsBytes 1 c.closeLimit && fitsBytes 1 c.idleLimit && fitsBytes 2 c.capacity &&
  fitsBytes 2 c.windowLimit && fitsBytes 2 c.userRecords && fitsBytes 2 c.holdRecords && fitsBytes 2 c.dupEntries

/-- The payload bytes of each kind code; none for an unknown kind (R47, R201). -/
def payloadBytes (kind : BitVec 4) : Option Nat :=
  match kind.toNat with
  | 3 => some 2
  | 4 => some 2
  | 5 => some 2
  | 8 => some 3
  | 10 => some 7
  | 12 => some 3
  | _ => none

/-- A sampled frame of known kind has that kind's payload bytes (R52). -/
def SampledFrame.wf (f : SampledFrame) : Bool :=
  match payloadBytes f.kind with
  | some n => f.payload.length == n
  | none => true

/-- The commands that can be sent. -/
def Instr.wf : Instr → Bool
  | .powerOn _ => true
  | .resetPinAssert => true
  | .resetPinRelease _ => true
  | .transactionStart => true
  | .linkTransactionOther edges ldi => decide (ldi < 2 ^ edges)
  | .localRequestTaken r => r.wf
  | .nop => true
  | .configure c => c.wf
  | .restart => true
  | .stationQuery => true
  | .readCause => true
  | .timebaseRetry => true
  | .charge u n => (Access.charge u n).wf
  | .credit u n => (Access.credit u n).wf
  | .userLoad u s h l => (Access.userLoad u s h l).wf
  | .userLimits u s h => (Access.userLimits u s h).wf
  | .userFreeze u => (Access.userFreeze u).wf
  | .userThaw u => (Access.userThaw u).wf
  | .userRetire u => (Access.userRetire u).wf
  | .userQuery u => (Access.userQuery u).wf
  | .userResync u => (Access.userResync u).wf
  | .userWatch u => (Access.userWatch u).wf
  | .userUnwatch u => (Access.userUnwatch u).wf
  | .hold u e n => (Access.hold u e n).wf
  | .restoreBegin u e n => (Access.restoreBegin u e n).wf
  | .restoreProgress h k => (Access.restoreProgress h k).wf
  | .restoreEnd h => (Access.restoreEnd h).wf
  | .idleTimeoutRelease => true
  | .restartRelease => true
  | .peerQuery s => fitsBytes 1 s
  | .peerDrop s => fitsBytes 1 s
  | .digestHold => true
  | .digestResume => true
  | .snapTake => true
  | .snapReady _ => true
  | .snapQuery _ _ => true
  | .snapExpire _ _ => true
  | .dupExtent _ _ n => fitsBytes 2 n
  | .dupEnd _ => true
  | .dupHalt => true
  | .windowOpen => true
  | .windowClose => true
  | .grantTake => true
  | .grantDone h _ => fitsBytes 1 h
  | .dupQuery => true
  | .frameBoundary _ => true
  | .peerGoneAge _ => true
  | .askTimerExpiry => true
  | .closeTimerExpiry _ => true
  | .idleLimitReached _ => true
  | .windowLimitExpiry => true
  | .gapTimerReached => true
  | .graceScanVisit => true
  | .digestSweepVisit => true
  | .expirySweepStep => true
  | .dropSweepStep => true
  | .usageReceipt => true
  | .epochProposeReceipt => true
  | .epochReadyReceipt => true
  | .epochLatestReceipt => true
  | .shareReceipt => true
  | .presenceReceipt => true
  | .noticeSendStart => true
  | .arbitrationLost b => b < 10
  | .stationNumberClash b => 10 ≤ b && b < 74
  | .sendAttemptEnd _ _ => true
  | .retiringRecordFreed u => fitsBytes 3 u
  | .reportDueAfterLoss u => fitsBytes 3 u
  | .noticeVerdict f => f.wf
  | .stretchTimeout => true
  | .stretchEntryFreed => true
  | .noticeAvailable _ => true
  | .frameBroken _ => true
  | .strayClocking => true
  | .busyTimeout => true
  | .idleGapEnd => true
  | .attachmentEnd => true
  | .lineStuck _ => true
  | .lineRestored => true
  | .referenceFallback n _ => n < 600000000
  | .referenceEdgeReturns => true
  | .anotherStationStart => true
  | .attemptAbandoned _ => true
  | .replyDelivered => true
  | .referenceMonitorAbsent => true

end Sys2Proof
end

