-- ==== Sys2Proof/Decode.lean ====
section
/-! DEFINITION. The decoder over the rows of spec/opcode_table.json that give bits. -/

namespace Sys2Proof

/-- The command that a word spells by the table's bits: no row of the table gives any, so no word spells a command. The bytes of the
Local Link's request records (R202) are read by `parseRecord` in Machine/Operands.lean, and the bits of a notice (R201) by `readNotice` there. -/
def decodeTableWord (_nbits _w : Nat) : Option Instr := none

end Sys2Proof
end

