-- ==== Sys2Proof/Machine/State.lean ====
section
/-! DEFINITION. The state of the LQ-412, as plain data: every record, queue, counter, flag and mode the manual gives the part, and the
queue of commands waiting. -/

namespace Sys2Proof.Machine

/-! ### The Quota Table (chapters 1 and 2) -/

/-- The state of a user record (R9); the grace remaining is present in GRACE only (R2). -/
inductive UserState where
  | under
  | grace (remaining : Nat)
  | lapsed
  | frozen
  | retiring
deriving DecidableEq, Repr

/-- One entry of a remote list (R3). -/
structure RemoteEntry where
  station : Station
  units : Nat
deriving DecidableEq, Repr

/-- A user record (R2). -/
structure UserRec where
  user : Nat
  state : UserState
  soft : Nat
  hard : Nat
  /-- L -/
  live : Nat
  /-- H -/
  held : Nat
  /-- V -/
  reserved : Nat
  reported : Nat
  reportDue : Bool
  remote : List RemoteEntry
  spill : Nat
deriving DecidableEq, Repr

/-- The grace scan (R18); the cursor is absent before the lowest user number. -/
structure GraceScan where
  running : Bool
  cursor : Option Nat
  owed : Nat
deriving DecidableEq, Repr

/-- A client of class 1 waiting at the arbiter (R14): the local request in progress, an idle-timeout release (R142) or a release of
RESTART (R146), each release naming its slot and generation. -/
inductive Client where
  | request
  | idleRelease (slot : Fin 8) (gen : Fin 8)
  | restartRelease (slot : Fin 8) (gen : Fin 8)
deriving DecidableEq, Repr

/-- The Digest Sweep (R80); the cursor is absent before the lowest user number. -/
structure Digest where
  cursor : Option Nat
  batch : Nat
  gapTimer : Nat
  held : Bool
  quiet : Nat
  round : Nat
deriving DecidableEq, Repr

/-! ### The Peer Line (chapter 3) -/

/-- A notice's kind and content (R47, R201). PRESENCE carries the latest epoch or marks it absent. -/
inductive Notice where
  | epochPropose (epoch : Epoch)
  | epochReady (epoch : Epoch)
  | epochLatest (epoch : Epoch)
  | share (backlog : Nat)
  | usage (user units : Nat)
  | presence (latest : Option Epoch)
deriving DecidableEq, Repr

/-- A notice in the outbound queue: its content, its attempt count (R57), whether it is in transmission (R49), and whether it is a
final notice placed by USER-RETIRE (R35). -/
structure QNotice where
  notice : Notice
  attempts : Nat
  sending : Bool
  final : Bool
deriving DecidableEq, Repr

/-- The successor of the notice in transmission (R60). -/
structure Successor where
  notice : Notice
  final : Bool
deriving DecidableEq, Repr

/-- The outbound queue in order of priority and age (R59), and the successor held outside it (R60). -/
structure Outbound where
  queue : List QNotice
  successor : Option Successor
deriving DecidableEq, Repr

/-- A notice in the receive queue (R62): available from the stop that ends its frame. -/
structure RxNotice where
  sender : Station
  notice : Notice
  available : Bool
deriving DecidableEq, Repr

/-- What a BUSY line waits for (R63, R64). -/
inductive BusyWhy where
  /-- 12 bit times with both wires high, no stop required (R63). -/
  | attachment
  /-- The stop of a frame of another station (R52). -/
  | frame
  /-- The idle gap after a stop (R46). -/
  | gap
  /-- A stop or 1 ms of high wires after stray clocking (R64). -/
  | stray
deriving DecidableEq, Repr

/-- The line state (R63). -/
inductive LineState where
  | detached
  | idle
  | busy (why : BusyWhy)
  | sending
  | stuck
deriving DecidableEq, Repr

/-- The slot a receiver drives (R56). -/
inductive Slot where
  | slotA
  | slotR
deriving DecidableEq, Repr

/-- The frame being received (R52, R53, R55). -/
inductive Rx where
  | noFrame
  /-- Before the verdict; `seen` are the header bits already sampled as a transmitter that lost (R50). -/
  | receiving (seen : List Bool)
  /-- CL held low over a notice that finds the receive queue full (R55). -/
  | stretching (sender : Station) (notice : Notice)
  /-- After the verdict: the slot driven, or neither (R53). -/
  | judged (slot : Option Slot)
deriving DecidableEq, Repr

/-- The Peer Line Controller's line: its state, the frame being received, and the bits of the frame being sent (R47). -/
structure Line where
  state : LineState
  rx : Rx
  sendBits : List Bool
deriving DecidableEq, Repr

/-- The ends of a notice in the outbound queue (R58). -/
inductive NoticeEnd where
  | delivered
  | noListener
  | dropped
  | clash
  | superseded
  | displaced
  | withdrawn
deriving DecidableEq, Repr

/-! ### The Peer View (chapter 4) -/

/-- The state of a peer entry (R68). -/
inductive PeerState where
  | absent
  | present
  | gone
deriving DecidableEq, Repr

/-- A peer entry (R68). -/
structure PeerEntry where
  state : PeerState
  framesSince : Nat
  latest : Option Epoch
  backlog : Option Nat
  shareAge : Nat
deriving DecidableEq, Repr

/-! ### The Snapshot Catalogue, the Hold Pool and the Sweep Engine (chapters 5 and 6) -/

/-- The state of a catalogue entry (R98); `closedPartial` is PARTIAL. -/
inductive CatState where
  | asked
  | ready
  | closed
  | closedPartial
  | expiring
deriving DecidableEq, Repr

/-- The duplication state (R150); `notQueued` is NONE. -/
inductive DupState where
  | notQueued
  | queued
  | ending
  | sent
  | incomplete
  | discarded
deriving DecidableEq, Repr

/-- A catalogue entry (R96). -/
structure CatEntry where
  epoch : Epoch
  state : CatState
  proposer : Station
  early : Option StationSet
  required : Option StationSet
  ready : Option StationSet
  missing : Option StationSet
  timer : Option Nat
  heldTotal : Nat
  holdCount : Nat
  pins : Nat
  dupState : DupState
  failedExtent : Bool
  queuedCount : Nat
  inFlight : Nat
deriving DecidableEq, Repr

/-- A hold record in use (R117). The records stand in the order of their creation, so an epoch's hold list is its records in order (R118). -/
structure Hold where
  user : Nat
  epoch : Epoch
  units : Nat
deriving DecidableEq, Repr

/-- The Sweep Engine (R125); a drop sweep's position is absent before the lowest user number. -/
inductive Sweep where
  | idle
  | expiry (epoch : Epoch) (swept : Nat) (waiting : Bool)
  | drop (station : Station) (position : Option Nat) (removed : Nat) (waiting : Bool)
deriving DecidableEq, Repr

/-! ### The Restore Table (chapter 7) -/

/-- The fields of an ACTIVE job slot (R133). -/
structure Job where
  user : Nat
  epoch : Epoch
  /-- r -/
  remaining : Nat
  /-- m -/
  moved : Nat
  idle : Nat
  releaseWaiting : Bool
deriving DecidableEq, Repr

/-- A job slot: FREE when it holds no job (R133). -/
structure JobSlot where
  gen : Fin 8
  job : Option Job
deriving DecidableEq, Repr

/-! ### The Duplication Unit (chapter 8) -/

/-- What a duplication entry asks for: an EXTENT, an END marker or a HALT (R148). -/
inductive DupWork where
  | extent (epoch : Epoch) (token : Token) (units : Nat)
  | endMark (epoch : Epoch)
  | halt
deriving DecidableEq, Repr

/-- A queued duplication entry (R148); `parity` is the night parity, true for 1. -/
structure DupEntry where
  work : DupWork
  parity : Bool
  retries : Nat
deriving DecidableEq, Repr

/-- A granted entry and its order among the grants in flight (R162). -/
structure Grant where
  work : DupWork
  retries : Nat
  order : Nat
deriving DecidableEq, Repr

/-- A slot of the grant table: FREE when it holds no grant (R162). -/
structure GrantSlot where
  gen : Fin 8
  grant : Option Grant
deriving DecidableEq, Repr

/-- The Duplication Unit: its queue, its grant table, the window (open when a window timer is present), the night number, and the
share, budgets and debt (R148, R155, R159, R160, R162). -/
structure Dup where
  queue : List DupEntry
  grants : List GrantSlot
  window : Option Nat
  night : BitVec 8
  share : Nat
  frameBudget : Nat
  remaining : Nat
  debt : Nat
deriving DecidableEq, Repr

/-- Why the window closes (R156). -/
inductive CloseReason where
  | request
  | limit
  | halt
deriving DecidableEq, Repr

/-! ### The Timebase (chapter 9) -/

/-- The Timebase's source (R172); `unclocked` is NONE. -/
inductive Source where
  | unclocked
  | reference
  | internal
deriving DecidableEq, Repr

/-- The Timebase (R172). -/
structure Timebase where
  source : Source
  refPresent : Bool
  switchBack : Bool
  timer : Nat
  frame : FrameNo
deriving DecidableEq, Repr

/-! ### The Cause List (chapter 11) -/

/-- The kinds of cause (R194). -/
inductive CauseKind where
  | lineStuck
  | addressClash
  | timebaseFallback
  | catalogueFull
  | graceExpired
  | watch
  | epochAsked
  | epochClosed
  | epochAbandoned
  | epochMissed
  | expiryDone
  | dropDone
  | dropCutShort
  | peerJoined
  | peerGone
  | peerReturned
  | restoreTimeout
  | dupExtentFailed
  | windowClosed
  | lineRestored
  | mixed
deriving DecidableEq, Repr

/-- The subject of a cause (R193). -/
inductive Subject where
  | several
  | user (n : Nat)
  | epoch (e : Epoch)
  | station (s : Station)
  | handle (h : Nat)
deriving DecidableEq, Repr

/-- Why a TIMEBASE_FALLBACK is raised (R175, R177, R178). -/
inductive FallbackWhy where
  | lost
  | retryFailed
  | absentAtStart
deriving DecidableEq, Repr

/-- The value of a cause (R194). -/
inductive CauseValue where
  | wires (w : Wires)
  | noticeKind (code : Nat)
  | fallback (why : FallbackWhy)
  /-- CATALOGUE_FULL: FULL, or SPAN when `span`. -/
  | catalogue (span : Bool)
  | userState (st : UserState)
  | proposer (s : Station)
  /-- EPOCH_CLOSED: WHOLE, or PARTIAL. -/
  | closedWhole (whole : Bool)
  /-- EPOCH_ABANDONED: TIMEOUT, or NEWER. -/
  | abandoned (newer : Bool)
  | number (n : Nat)
  | token (t : Token)
  | endMark
  | window (why : CloseReason) (carried : Nat)
  | causeKind (k : CauseKind)
deriving DecidableEq, Repr

/-- A cause record (R193). -/
structure CauseRec where
  kind : CauseKind
  subject : Subject
  value : Option CauseValue
  count : Nat
  frame : FrameNo
  urgent : Bool
deriving DecidableEq, Repr

/-! ### The Local Link Interface (chapters 10 and 12) -/

/-- The statuses of a reply (R203); `replyPartial` is PARTIAL. -/
inductive Status where
  | ok
  | okSoft
  | okClamped
  | replyPartial
  | halted
  | refusedHard
  | refusedLapsed
  | refusedFrozen
  | unknownUser
  | existsAlready
  | notEmpty
  | tableFull
  | poolFull
  | queueFull
  | catalogueFull
  | watchFull
  | jobsFull
  | noSuchEpoch
  | noSuchHandle
  | wrongState
  | busy
  | pinned
  | notOffsite
  | expiring
  | epochEnded
  | sweepBusy
  | noGrant
  | range
  | badRequest
  | badConfig
  | notConfigured
  | noReference
deriving DecidableEq, Repr

/-- Why GRANT-TAKE gives no grant (R163, R164). -/
inductive NoGrant where
  | closed
  | grantsFull
  | empty
  | order
  | budget
deriving DecidableEq, Repr

/-- What became of a GRANT-DONE (R166, R167). -/
inductive DoneOutcome where
  | done
  | returned
  | dropped
deriving DecidableEq, Repr

/-- The block of R26: the user number as sent, the record's state and its estimate, or absent. -/
structure UserBlock where
  user : Nat
  state : Option UserState
  estimate : Option Nat
deriving DecidableEq, Repr

/-- The whole record that USER-QUERY reads, with its derived figures (R38). -/
structure UserReport where
  record : UserRec
  weightedHeld : Nat
  ownCharge : Nat
  remoteSum : Nat
  watched : Bool
deriving DecidableEq, Repr

/-- The free counts of STATION-QUERY (R192). -/
structure FreeCounts where
  users : Option Nat
  holds : Option Nat
  dups : Option Nat
  catalogue : Nat
  jobs : Nat
  grants : Nat
  outbound : Nat
  receive : Nat
  causes : Nat
  watch : Nat
deriving DecidableEq, Repr

/-- The payload of a reply (R202), one constructor for each shape of the reply column. -/
inductive ReplyBody where
  /-- BAD_REQUEST and NOT_CONFIGURED. -/
  | empty
  | configure (station : Station) (badIndex sum unused : Nat) (source : Option Source)
  | restart (jobs grants : Nat)
  | stationQuery (station : Station) (running : Bool) (line : LineState) (source : Source) (frame : FrameNo) (latest : Option Epoch)
      (peersAbsent peersPresent peersGone : Nat) (free : FreeCounts)
  | readCause (record : Option CauseRec) (left urgentLeft : Nat)
  | timebaseRetry (source : Source) (pending refPresent : Bool) (frame : FrameNo) (already : Bool)
  | charge (a : UserBlock) (tested : Option Nat)
  | credit (a : UserBlock) (removed : Nat)
  /-- USER-LOAD, USER-LIMITS, USER-THAW, USER-RETIRE, USER-RESYNC. -/
  | user (a : UserBlock)
  | userFreeze (a : UserBlock) (former : Option UserState)
  | userQuery (a : UserBlock) (report : Option UserReport)
  /-- USER-WATCH, USER-UNWATCH. -/
  | userWatch (a : UserBlock) (listedBefore : Bool) (entries : Nat)
  | peerQuery (entry : PeerEntry) (countsNow dropRunning : Bool)
  | peerDrop
  /-- DIGEST-HOLD, DIGEST-RESUME. -/
  | digest (heldBefore : Bool)
  | snapTake (epoch : Option Epoch)
  | snapReady (required ready : StationSet) (closed : Bool)
  | snapQuery (latest : Option Epoch) (entries : Nat) (entry : Option CatEntry)
  | hold (a : UserBlock) (units : Nat) (newRecord : Bool) (free : Nat)
  | snapExpire (before : Option CatEntry) (holdCount : Nat) (completed : Bool) (purged : Nat)
  | restoreBegin (a : UserBlock) (tested : Option Nat) (handle : Option Nat)
  | restoreProgress (a : UserBlock) (moved r m : Nat)
  | restoreEnd (a : UserBlock) (m released : Nat)
  /-- DUP-EXTENT, DUP-END. -/
  | dupQueue (free : Nat) (dupState : Option DupState) (queued : Nat) (units : Option Nat) (parity : Option Bool) (absorbed : Bool)
  | dupHalt (free : Nat)
  | windowOpen (night : Option (BitVec 8)) (backlog share tonight : Nat)
  | windowClose (carried : Nat)
  | grantTake (reason : Option NoGrant) (remaining frameBudget debt tonight carried : Nat) (grant : Option (Nat × DupWork × Nat))
  | grantDone (outcome : Option DoneOutcome) (retries : Nat) (work : Option DupWork) (dupState : Option DupState)
  | dupQuery (window : Option Nat) (night : BitVec 8) (share frameBudget remaining debt backlog peerTotal tonight nextNight inFlight
      freeEntries freeSlots : Nat) (head : Option DupEntry)
deriving DecidableEq, Repr

/-- A reply record: status, echoed code, overrun mark, payload (R180). -/
structure Reply where
  status : Status
  code : Byte
  mark : Bool
  body : ReplyBody
deriving DecidableEq, Repr

/-- What a request in progress still works on (R183, R190). -/
inductive Work where
  | access (request : Access)
  | restart (jobsEnded grantsReturned : Nat)
deriving DecidableEq, Repr

/-- The request in progress, with the overrun mark its reply will carry (R184). -/
structure InProgress where
  code : Byte
  mark : Bool
  work : Work
deriving DecidableEq, Repr

/-- The transaction in progress (R180): what it shifts out, whether its eighth clock edge has come (R181), and whether a request was in
progress when it began (R184). -/
structure Txn where
  out : Option Reply
  eighthEdge : Bool
  requestAtStart : Bool
deriving DecidableEq, Repr

/-- The Local Link Interface (R181, R183, R186). -/
structure Link where
  running : Bool
  reply : Option Reply
  inProgress : Option InProgress
  txn : Option Txn
deriving DecidableEq, Repr

/-! ### The machine -/

/-- The whole state of the part, and the queue of commands. -/
structure State where
  resetLow : Bool
  /-- LSEL is low in a transaction that a reset abandoned, or that began while RESET was low: its rise is not judged (R191; log 40). -/
  ignored : Bool
  station : Station
  cfg : Option Settings
  link : Link
  users : List UserRec
  watch : List Nat
  scan : GraceScan
  class1 : List Client
  finalWaiting : List Nat
  freeOwed : List Nat
  dueOwed : List Nat
  digest : Digest
  line : Line
  out : Outbound
  recv : List RxNotice
  peers : List PeerEntry
  ownFrame : Bool
  peerTotal : Nat
  cat : List CatEntry
  latest : Option Epoch
  holds : List Hold
  sweep : Sweep
  jobs : List JobSlot
  dup : Dup
  tb : Timebase
  causes : List CauseRec
  /-- The commands waiting, first in, first out. -/
  pending : List Instr
deriving DecidableEq, Repr

/-- A peer entry after power-on (R92). -/
def PeerEntry.unheard : PeerEntry :=
  { state := .absent, framesSince := 255, latest := none, backlog := none, shareAge := 255 }

/-- Every block at its power-on value (R23, R43, R67, R92, R115, R131, R147, R171, R178, R191, R200). `low`: RESET still held low, or
supply still being applied. The station number, the reference monitor and LSEL are inputs (R187, R178, R191). The gap timer, which R92 gives as
not running until CONFIGURE, is held as 0 (DESIGN CHOICE, log 35): nothing reads it before CONFIGURE sets it. -/
def State.powerOn (low : Bool) (station : Station) (refPresent : Bool) : State :=
  { resetLow := low
    ignored := false
    station := station
    cfg := none
    link := { running := false, reply := none, inProgress := none, txn := none }
    users := []
    watch := []
    scan := { running := false, cursor := none, owed := 0 }
    class1 := []
    finalWaiting := []
    freeOwed := []
    dueOwed := []
    digest := { cursor := none, batch := 0, gapTimer := 0, held := false, quiet := 0, round := 0 }
    line := { state := .detached, rx := .noFrame, sendBits := [] }
    out := { queue := [], successor := none }
    recv := []
    peers := List.replicate 16 PeerEntry.unheard
    ownFrame := false
    peerTotal := 0
    cat := []
    latest := none
    holds := []
    sweep := .idle
    jobs := List.replicate 8 { gen := 0, job := none }
    dup :=
      { queue := [], grants := List.replicate 8 { gen := 0, grant := none }, window := none, night := 0
        share := 0, frameBudget := 0, remaining := 0, debt := 0 }
    tb := { source := .unclocked, refPresent := refPresent, switchBack := false, timer := 0, frame := 0 }
    causes := []
    pending := [] }

/-- The machine right after a reset has ended (R191). The station number 0 and the absent reference are the model's choices for two
inputs (DESIGN CHOICE, log 1 and log 2; unsafe). -/
def State.reset : State := State.powerOn false 0 false

/-- The part names no state in which it stops, so no command faults: the type has no constructor (safe: nothing raises one). -/
inductive Fault where
deriving DecidableEq, Repr

/-- Why a command has no meaning here. -/
inductive Refusal where
  /-- Raised by an arm of exec whose command has no meaning yet; safe. No arm raises it. -/
  | notModelled (mnemonic : String)
deriving DecidableEq, Repr

/-- What a step of this machine answers. -/
abbrev Result := Host.Outcome State Fault Refusal

end Sys2Proof.Machine
end

