-- ==== Sys2Proof/Machine/Flags.lean ====
section
/-! DEFINITION. The Cause List and ATTN: how a cause is raised, merged and read (chapter 11). -/

namespace Sys2Proof.Machine

/-- A cause as a block raises it (R195). -/
structure Cause where
  kind : CauseKind
  subject : Subject
  value : Option CauseValue
deriving DecidableEq, Repr

/-- Applies `f` to the first element that meets `p`. -/
def modifyFirst {α : Type} (p : α → Bool) (f : α → α) : List α → List α
  | [] => []
  | x :: xs => if p x then f x :: xs else x :: modifyFirst p f xs

/-- Applies `f` to the last element that meets `p`. -/
def modifyLast {α : Type} (p : α → Bool) (f : α → α) (l : List α) : List α :=
  (modifyFirst p f l.reverse).reverse

/-- The standing of each kind (R194); MIXED by itself is ordinary. -/
def CauseKind.urgent : CauseKind → Bool
  | .lineStuck => true
  | .addressClash => true
  | .timebaseFallback => true
  | .catalogueFull => true
  | .graceExpired => false
  | .watch => false
  | .epochAsked => false
  | .epochClosed => false
  | .epochAbandoned => false
  | .epochMissed => false
  | .expiryDone => false
  | .dropDone => false
  | .dropCutShort => false
  | .peerJoined => false
  | .peerGone => false
  | .peerReturned => false
  | .restoreTimeout => false
  | .dupExtentFailed => false
  | .windowClosed => false
  | .lineRestored => false
  | .mixed => false

/-- A count of causes, saturating at 255 (R193). -/
def causeCount (n : Nat) : Nat := min 255 (n + 1)

/-- A merge into the record of the same kind and subject (R195). -/
def mergeSame (frame : FrameNo) (c : Cause) (r : CauseRec) : CauseRec :=
  { r with count := causeCount r.count, value := c.value, frame := frame }

/-- A merge into a record of the same kind in a full list: the subject becomes or stays SEVERAL (R196). -/
def mergeSeveral (frame : FrameNo) (c : Cause) (r : CauseRec) : CauseRec :=
  { r with subject := .several, count := causeCount r.count, value := c.value, frame := frame, urgent := c.kind.urgent }

/-- A merge into a MIXED record, or the conversion of a record to MIXED (R197): urgent when the record or the cause was (R194). -/
def mergeMixed (frame : FrameNo) (c : Cause) (r : CauseRec) : CauseRec :=
  { kind := .mixed, subject := .several, value := some (.causeKind c.kind), count := causeCount r.count, frame := frame
    urgent := r.urgent || c.kind.urgent }

/-- A new record (R193). -/
def newRecord (frame : FrameNo) (c : Cause) : CauseRec :=
  { kind := c.kind, subject := c.subject, value := c.value, count := 1, frame := frame, urgent := c.kind.urgent }

/-- Raising a cause into the list (R195, R196, R197). -/
def raiseIn (frame : FrameNo) (c : Cause) (l : List CauseRec) : List CauseRec :=
  if l.any (fun r => decide (r.kind = c.kind ∧ r.subject = c.subject)) then
    modifyFirst (fun r => decide (r.kind = c.kind ∧ r.subject = c.subject)) (mergeSame frame c) l
  else if l.length < Config.causeSlots then l ++ [newRecord frame c]
  else if l.any (fun r => decide (r.kind = c.kind ∧ r.subject = .several)) then
    modifyFirst (fun r => decide (r.kind = c.kind ∧ r.subject = .several)) (mergeSeveral frame c) l
  else if l.any (fun r => decide (r.kind = c.kind)) then modifyLast (fun r => decide (r.kind = c.kind)) (mergeSeveral frame c) l
  else if l.any (fun r => decide (r.kind = .mixed)) then modifyFirst (fun r => decide (r.kind = .mixed)) (mergeMixed frame c) l
  else modifyLast (fun _ => true) (mergeMixed frame c) l

/-- Raises a cause at the current frame number (R195). -/
def State.raise (kind : CauseKind) (subject : Subject) (value : Option CauseValue) (s : State) : State :=
  { s with causes := raiseIn s.tb.frame { kind := kind, subject := subject, value := value } s.causes }

/-- The record READ-CAUSE returns: the oldest urgent one, else the oldest (R199). -/
def nextCause (l : List CauseRec) : Option CauseRec :=
  match l.find? (fun r => r.urgent) with
  | some r => some r
  | none => l.head?

/-- The list without the record READ-CAUSE returns; the others keep their order (R199). -/
def dropNextCause (l : List CauseRec) : List CauseRec :=
  if l.any (fun r => r.urgent) then l.eraseP (fun r => r.urgent) else l.tail

/-- ATTN is asserted (driven low) exactly while the list holds a record (R193, R198). -/
def State.attn (s : State) : Bool := !s.causes.isEmpty

end Sys2Proof.Machine
end

