-- ==== Sys2Proof/Machine/Ops.lean ====
section
/-! DEFINITION. Named operations over the records: the user table, the estimate and re-evaluation (chapter 1), the report-due check (R42),
station sets, epochs (R93) and the catalogue's and tables' lookups. -/

namespace Sys2Proof.Machine

/-! ### Configured values -/

/-- Settings of a station that is not configured: no rule reads them, since before CONFIGURE no table access, boundary or notice
comes (R186). They make the accessor total (log 25). -/
def unconfiguredSettings : Settings :=
  { frameLength := 0, lineRate := 0, heldWeight := 0, grace := 0, reportStep := 0, digestBatch := 0, digestGap := 0, goneAge := 0
    askLimit := 0, closeLimit := 0, idleLimit := 0, capacity := 0, windowLimit := 0, userRecords := 0, holdRecords := 0, dupEntries := 0 }

/-- The configured values as the blocks read them. -/
def State.settings (s : State) : Settings := s.cfg.getD unconfiguredSettings

/-- A sum that saturates (00 section 4.1). -/
def saturate (n : Nat) : Nat := min Config.maxAU n

/-! ### The estimate (R5, R6) -/

/-- Hw = ceiling(H × w / 8) (R5). -/
def weightedHeld (w held : Nat) : Nat := (held * w + 7) / 8

/-- Q = L + V + Hw, saturating (R6). -/
def ownCharge (w : Nat) (u : UserRec) : Nat := saturate (u.live + u.reserved + weightedHeld w u.held)

/-- The units of a remote list. -/
def remoteUnits : List RemoteEntry → Nat
  | [] => 0
  | r :: rs => r.units + remoteUnits rs

/-- S: the remote entries plus spill, saturating (R6). -/
def remoteSum (u : UserRec) : Nat := saturate (remoteUnits u.remote + u.spill)

/-- E = Q + S, saturating (R6). -/
def estimate (w : Nat) (u : UserRec) : Nat := saturate (ownCharge w u + remoteSum u)

/-! ### User states (R9, R10, R21) -/

/-- The code of a user state (R204); two values of the state field are different when their codes are (R21). -/
def UserState.code : UserState → Nat
  | .under => 1
  | .grace _ => 2
  | .lapsed => 3
  | .frozen => 4
  | .retiring => 5

/-- Re-evaluation (R10). -/
def reevaluate (w g : Nat) (u : UserRec) : UserRec :=
  match u.state with
  | .under => if estimate w u ≤ u.soft then u else { u with state := .grace g }
  | .grace _ => if estimate w u ≤ u.soft then { u with state := .under } else u
  | .lapsed => if estimate w u ≤ u.soft then { u with state := .under } else u
  | .frozen => u
  | .retiring => u

/-- The condition of the report-due check (R42): |Q - reported| at least the report step, or Q fallen to 0. -/
def reportMoved (w step : Nat) (u : UserRec) : Bool :=
  (u.reported + step ≤ ownCharge w u) || (ownCharge w u + step ≤ u.reported) || (ownCharge w u == 0 && 0 < u.reported)

/-! ### The user table (R1, R17) -/

/-- The record of a user. -/
def State.findUser (user : Nat) (s : State) : Option UserRec := s.users.find? (fun r => r.user == user)

/-- The record of a user, when it is present and not RETIRING (R13, R25). -/
def State.findActive (user : Nat) (s : State) : Option UserRec :=
  match s.findUser user with
  | none => none
  | some u => if u.state = .retiring then none else some u

/-- A user has a record in RETIRING. -/
def State.isRetiring (user : Nat) (s : State) : Bool :=
  match s.findUser user with
  | none => false
  | some u => decide (u.state = .retiring)

/-- Replaces the record with the same user number. -/
def putUser (u : UserRec) : List UserRec → List UserRec
  | [] => []
  | r :: rs => if r.user == u.user then u :: rs else r :: putUser u rs

/-- Inserts a record at the place its user number gives it (R1). -/
def insertUser (u : UserRec) : List UserRec → List UserRec
  | [] => [u]
  | r :: rs => if u.user < r.user then u :: r :: rs else r :: insertUser u rs

/-- A user number lies above a position (R17). -/
def above (position : Option Nat) (user : Nat) : Bool :=
  match position with
  | none => true
  | some p => p < user

/-- The record with the next greater user number than a position (R17). -/
def State.nextUser (position : Option Nat) (s : State) : Option UserRec := s.users.find? (fun r => above position r.user)

/-- Frees a record: it leaves the table, and its watch-list entry is removed without a cause (R13, R22). -/
def State.freeUser (user : Nat) (s : State) : State :=
  { s with users := s.users.eraseP (fun r => r.user == user), watch := s.watch.filter (fun w => w != user) }

/-- Wakes the Digest Sweep (R84). -/
def Digest.wake (d : Digest) : Digest := { d with quiet := 0 }

/-- The WATCH cause of a changed state, when the user is watched (R21). -/
def watchCause (frame : FrameNo) (watch : List Nat) (user : Nat) (before after : UserState) (causes : List CauseRec) : List CauseRec :=
  if before.code ≠ after.code ∧ user ∈ watch then
    raiseIn frame { kind := .watch, subject := .user user, value := some (.userState after) } causes
  else causes

/-- A change of state that is not a re-evaluation, with its WATCH cause (R21). -/
def State.putState (u : UserRec) (state : UserState) (s : State) : State :=
  { s with
    users := putUser { u with state := state } s.users
    causes := watchCause s.tb.frame s.watch u.user u.state state s.causes }

/-- The record as an access leaves it: re-evaluated (R10), and with report due set when the access changed Q and the report-due check
finds it owed (R42). -/
def settledRecord (c : Settings) (old changed : UserRec) : UserRec :=
  if ownCharge c.heldWeight old ≠ ownCharge c.heldWeight changed ∧ reportMoved c.heldWeight c.reportStep changed = true then
    { reevaluate c.heldWeight c.grace changed with reportDue := true }
  else reevaluate c.heldWeight c.grace changed

/-- Steps 2 to 5 of an access that changed a user record (R15): the record as `settledRecord` gives it, the WATCH cause of a changed
state, and the wake that setting report due makes (R84). -/
def State.commit (old changed : UserRec) (s : State) : State :=
  { s with
    users := putUser (settledRecord s.settings old changed) s.users
    causes :=
      watchCause s.tb.frame s.watch old.user old.state (reevaluate s.settings.heldWeight s.settings.grace changed).state s.causes
    digest :=
      if ownCharge s.settings.heldWeight old ≠ ownCharge s.settings.heldWeight changed ∧
          reportMoved s.settings.heldWeight s.settings.reportStep changed = true then
        s.digest.wake
      else s.digest }

/-- Sets report due on a record and wakes the sweep (R84). -/
def State.setDue (user : Nat) (s : State) : State :=
  { s with
    users := modifyFirst (fun r => r.user == user) (fun r => { r with reportDue := true }) s.users
    digest := s.digest.wake }

/-- Clears report due on a record. -/
def State.clearDue (user : Nat) (s : State) : State :=
  { s with users := modifyFirst (fun r => r.user == user) (fun r => { r with reportDue := false }) s.users }

/-- The block of R26 for a request refused before a record was found, or that found a RETIRING one. -/
def noUser (user : Nat) : UserBlock := { user := user, state := none, estimate := none }

/-- The block of R26 from the record as it stands when the access ends. -/
def State.userBlock (user : Nat) (s : State) : UserBlock :=
  match s.findUser user with
  | none => noUser user
  | some u => { user := user, state := some u.state, estimate := some (estimate s.settings.heldWeight u) }

/-! ### Station sets -/

/-- The set of one station. -/
def oneStation (st : Station) : StationSet := 1#16 <<< st.val

/-- Membership. -/
def inSet (st : Station) (set : StationSet) : Bool := set.getLsbD st.val

/-- Addition; a station already in the set is added without change (R106). -/
def addTo (st : Station) (set : StationSet) : StationSet := set ||| oneStation st

/-- Removal. -/
def removeFrom (st : Station) (set : StationSet) : StationSet := set &&& ~~~ oneStation st

/-- Every station of the first set is in the second (R108). -/
def within (a b : StationSet) : Bool := a &&& ~~~ b == 0#16

/-! ### Epochs (R93) -/

/-- a is newer than b. -/
def newer (a b : Epoch) : Bool := decide (1 ≤ (a - b).toNat) && decide ((a - b).toNat ≤ Config.span)

/-- Newer than the latest known epoch; every epoch is newer than an absent one (R93). -/
def newerThanLatest (e : Epoch) (latest : Option Epoch) : Bool :=
  match latest with
  | none => true
  | some l => newer e l

/-- The epoch a new proposal takes: the successor of the latest, or 1 (R99). -/
def nextEpoch (latest : Option Epoch) : Epoch :=
  match latest with
  | none => 1
  | some l => l + 1

/-! ### Catalogue lookups -/

/-- The entry of an epoch. -/
def State.findEpoch (e : Epoch) (s : State) : Option CatEntry := s.cat.find? (fun c => c.epoch == e)

/-- Changes the entry of an epoch. -/
def State.modifyEpoch (e : Epoch) (f : CatEntry → CatEntry) (s : State) : State :=
  { s with cat := modifyFirst (fun c => c.epoch == e) f s.cat }

/-- CLOSED and PARTIAL are alike for every other block (R98). -/
def CatState.isClosed : CatState → Bool
  | .closed => true
  | .closedPartial => true
  | .asked => false
  | .ready => false
  | .expiring => false

/-! ### Hold Pool (R117, R118) -/

/-- An epoch's hold list, oldest first. -/
def State.holdList (e : Epoch) (s : State) : List Hold := s.holds.filter (fun h => h.epoch == e)

/-- The records on the free list (R117). -/
def State.freeHolds (s : State) : Nat := s.settings.holdRecords - s.holds.length

/-! ### Peer entries (R68) -/

/-- The entry of a station. -/
def State.peer (st : Station) (s : State) : PeerEntry := s.peers.getD st.val PeerEntry.unheard

/-- Changes the entry of a station. -/
def State.setPeer (st : Station) (p : PeerEntry) (s : State) : State := { s with peers := s.peers.set st.val p }

/-- At least one entry is PRESENT (R75). -/
def State.anyPresent (s : State) : Bool := s.peers.any (fun p => decide (p.state = .present))

/-- The set of PRESENT stations (R75). -/
def State.presentSet (s : State) : StationSet :=
  (List.finRange 16).foldl (fun set st => if (s.peer st).state = .present then addTo st set else set) 0#16

/-! ### Handles (00 section 4.4) -/

/-- generation × 8 + slot. -/
def handleOf (slot gen : Fin 8) : Nat := gen.val * 8 + slot.val

/-- The slot a handle names. -/
def handleSlot (h : Nat) : Fin 8 := Fin.ofNat 8 (h % 8)

/-- The generation a handle names. -/
def handleGen (h : Nat) : Fin 8 := Fin.ofNat 8 (h / 8)

/-- A job slot. -/
def State.jobSlot (i : Fin 8) (s : State) : JobSlot := s.jobs.getD i.val { gen := 0, job := none }

/-- Writes a job slot. -/
def State.setJob (i : Fin 8) (j : JobSlot) (s : State) : State := { s with jobs := s.jobs.set i.val j }

/-- The lowest-numbered slot that meets `p`. -/
def lowestSlot (p : Fin 8 → Bool) : Option (Fin 8) := (List.finRange 8).find? p

/-- A grant slot. -/
def State.grantSlot (i : Fin 8) (s : State) : GrantSlot := s.dup.grants.getD i.val { gen := 0, grant := none }

end Sys2Proof.Machine
end

