-- ==== Sys2Proof/Machine/Operands.lean ====
section
/-! DEFINITION. The layouts of chapter 12: notices as bits on the Peer Line with their check (R47, R48, R201), request records as bytes
(R202), and reply records as bytes (R202, R203, R204); and the times of the line (R44, R46). -/

namespace Sys2Proof.Machine

/-! ### Fields -/

/-- A number as `width` bits, most significant first (R201). -/
def bitsOf : Nat → Nat → List Bool
  | 0, _ => []
  | width + 1, v => v.testBit width :: bitsOf width v

/-- A number as `n` bytes, most significant first (R202). -/
def bytesOf : Nat → Nat → List Byte
  | 0, _ => []
  | n + 1, v => BitVec.ofNat 8 (v / 256 ^ n) :: bytesOf n v

/-- The number that bytes spell, most significant first. -/
def numberOf (b : List Byte) : Nat := b.foldl (fun a x => a * 256 + x.toNat) 0

/-- The field of `n` bytes at an offset. -/
def fieldAt (b : List Byte) (offset n : Nat) : Nat := numberOf ((b.drop offset).take n)

/-- A byte as bits, most significant first. -/
def byteBits (b : Byte) : List Bool := bitsOf 8 b.toNat

/-! ### Notices (R47, R48, R201) -/

/-- The kind code of a notice (R201). -/
def Notice.code : Notice → Nat
  | .epochPropose _ => 3
  | .epochReady _ => 4
  | .epochLatest _ => 5
  | .share _ => 8
  | .usage _ _ => 10
  | .presence _ => 12

/-- The fixed priority of a notice's kind (R47). -/
def Notice.priority : Notice → Nat
  | .epochPropose _ => 0
  | .epochReady _ => 0
  | .epochLatest _ => 0
  | .share _ => 1
  | .usage _ _ => 2
  | .presence _ => 3

/-- The payload of a notice (R201). -/
def Notice.payload : Notice → List Byte
  | .epochPropose e => bytesOf 2 e.toNat
  | .epochReady e => bytesOf 2 e.toNat
  | .epochLatest e => bytesOf 2 e.toNat
  | .share b => bytesOf 3 b
  | .usage u x => bytesOf 3 u ++ bytesOf 4 x
  | .presence none => bytesOf 1 0 ++ bytesOf 2 0
  | .presence (some e) => bytesOf 1 1 ++ bytesOf 2 e.toNat

/-- The 10 header bits: priority, kind, station (R47). -/
def headerBits (priority kind station : Nat) : List Bool := bitsOf 2 priority ++ bitsOf 4 kind ++ bitsOf 4 station

/-- One bit into the check register: compare with the most significant bit, shift, and invert the three lowest when they differ (R48). -/
def checkBit (register : Byte) (bit : Bool) : Byte :=
  if register.msb == bit then register <<< 1 else (register <<< 1) ^^^ 0x07#8

/-- The check over bits in the order in which they are sent (R48). -/
def checkOf (bits : List Bool) : Byte := bits.foldl checkBit 0#8

/-- The bits the check covers: the header, then the payload (R48). -/
def coveredBits (priority kind station : Nat) (payload : List Byte) : List Bool :=
  headerBits priority kind station ++ payload.flatMap byteBits

/-- The bits a station sends of a notice: header, payload, check (R47). -/
def frameBits (station : Station) (n : Notice) : List Bool :=
  coveredBits n.priority n.code station.val n.payload ++ byteBits (checkOf (coveredBits n.priority n.code station.val n.payload))

/-- The clocked bit times of a frame: header, payload, check and two slots (R47). -/
def clockedBits (n : Notice) : Nat := 10 + 8 * n.payload.length + 8 + 2

/-- The header bits a receiver sampled. -/
def sampledHeader (f : SampledFrame) : List Bool := headerBits f.priority.toNat f.kind.toNat f.station.val

/-- The check passes (R48). -/
def checkPasses (f : SampledFrame) : Bool :=
  checkOf (coveredBits f.priority.toNat f.kind.toNat f.station.val f.payload) == f.check

/-- The notice a receiver reads from the positions of R201; none for an unknown kind. The flags byte of PRESENCE counts by its least
significant bit, and an absent epoch's field is disregarded (R70). -/
def readNotice (kind : BitVec 4) (p : List Byte) : Option Notice :=
  match kind.toNat with
  | 3 => some (.epochPropose (BitVec.ofNat 16 (fieldAt p 0 2)))
  | 4 => some (.epochReady (BitVec.ofNat 16 (fieldAt p 0 2)))
  | 5 => some (.epochLatest (BitVec.ofNat 16 (fieldAt p 0 2)))
  | 8 => some (.share (fieldAt p 0 3))
  | 10 => some (.usage (fieldAt p 0 3) (fieldAt p 3 4))
  | 12 => some (.presence (if fieldAt p 0 1 % 2 = 1 then some (BitVec.ofNat 16 (fieldAt p 1 2)) else none))
  | _ => none

/-- Well-formed: the kind's own priority, and the top 4 bits of a USAGE units figure clear (R47, R53). -/
def noticeWellFormed (f : SampledFrame) (n : Notice) : Bool :=
  f.priority.toNat == n.priority &&
  match n with
  | .usage _ units => units ≤ Config.maxAU
  | .epochPropose _ => true
  | .epochReady _ => true
  | .epochLatest _ => true
  | .share _ => true
  | .presence _ => true

/-! ### Times of the line, in nanoseconds; the model counts none of them (log 5) -/

/-- T: 10, 5 or 2.5 µs by the line rate (R44). -/
def bitTimeNs (lineRate : Nat) : Nat := 10000 / lineRate

/-- The idle gap, 12 bit times (R46). -/
def idleGapNs (lineRate : Nat) : Nat := 12 * bitTimeNs lineRate

/-- The 1 ms of high wires that end BUSY and STUCK (R54, R64, R66). -/
def highWiresNs : Nat := 1000000

/-- The 2 ms of a stretch (R55). -/
def stretchLimitNs : Nat := 2000000

/-- The 20 ms after which a low wire is stuck (R65). -/
def stuckLimitNs : Nat := 20000000

/-- The 50 µs after which the reference is absent (R172). -/
def referenceLimitNs : Nat := 50000

/-! ### Request records (R180, R202) -/

/-- A request as its record carries it: those taken at once, those of RESTART and NOP, and the Quota Table accesses (R183). -/
inductive Request where
  | nop
  | configure (settings : Settings)
  | restart
  | stationQuery
  | readCause
  | timebaseRetry
  | access (a : Access)
  | peerQuery (station : Nat)
  | peerDrop (station : Nat)
  | digestHold
  | digestResume
  | snapTake
  | snapReady (epoch : Epoch)
  | snapQuery (epoch : Epoch) (mode : SnapMode)
  | snapExpire (epoch : Epoch) (discard : Bool)
  | dupExtent (epoch : Epoch) (token : Token) (units : Nat)
  | dupEnd (epoch : Epoch)
  | dupHalt
  | windowOpen
  | windowClose
  | grantTake
  | grantDone (handle : Nat) (failed : Bool)
  | dupQuery
deriving DecidableEq, Repr

/-- The code byte of an access (R202). -/
def Access.code : Access → Byte
  | .charge _ _ => 16
  | .credit _ _ => 17
  | .userLoad _ _ _ _ => 18
  | .userLimits _ _ _ => 19
  | .userFreeze _ => 20
  | .userThaw _ => 21
  | .userRetire _ => 22
  | .userQuery _ => 23
  | .userResync _ => 24
  | .userWatch _ => 25
  | .userUnwatch _ => 26
  | .hold _ _ _ => 51
  | .restoreBegin _ _ _ => 64
  | .restoreProgress _ _ => 65
  | .restoreEnd _ => 66

/-- The code byte of a request (R202). -/
def Request.code : Request → Byte
  | .nop => 0
  | .configure _ => 1
  | .restart => 2
  | .stationQuery => 3
  | .readCause => 4
  | .timebaseRetry => 5
  | .access a => Access.code a
  | .peerQuery _ => 32
  | .peerDrop _ => 33
  | .digestHold => 34
  | .digestResume => 35
  | .snapTake => 48
  | .snapReady _ => 49
  | .snapQuery _ _ => 50
  | .snapExpire _ _ => 52
  | .dupExtent _ _ _ => 80
  | .dupEnd _ => 81
  | .dupHalt => 82
  | .windowOpen => 83
  | .windowClose => 84
  | .grantTake => 85
  | .grantDone _ _ => 86
  | .dupQuery => 87

/-- The length in bytes of the request record of each known code (R202). -/
def recordLength (code : Nat) : Option Nat :=
  match code with
  | 0 => some 1
  | 1 => some 25
  | 2 => some 1
  | 3 => some 1
  | 4 => some 1
  | 5 => some 1
  | 16 => some 6
  | 17 => some 8
  | 18 => some 16
  | 19 => some 12
  | 20 => some 4
  | 21 => some 4
  | 22 => some 4
  | 23 => some 4
  | 24 => some 4
  | 25 => some 4
  | 26 => some 4
  | 32 => some 2
  | 33 => some 2
  | 34 => some 1
  | 35 => some 1
  | 48 => some 1
  | 49 => some 3
  | 50 => some 4
  | 51 => some 10
  | 52 => some 4
  | 64 => some 9
  | 65 => some 5
  | 66 => some 2
  | 80 => some 9
  | 81 => some 3
  | 82 => some 1
  | 83 => some 1
  | 84 => some 1
  | 85 => some 1
  | 86 => some 3
  | 87 => some 1
  | _ => none

/-- The epoch at an offset of a request record. -/
def epochAt (b : List Byte) (offset : Nat) : Epoch := BitVec.ofNat 16 (fieldAt b offset 2)

/-- The mode byte of SNAP-QUERY (R204); a byte outside its codes is malformed. -/
def modeOf (v : Nat) : Option SnapMode :=
  match v with
  | 1 => some .exact
  | 2 => some .first
  | 3 => some .next
  | _ => none

/-- A flag byte, or the GRANT-DONE result byte; above 1 it is malformed (R202). -/
def flagOf (v : Nat) : Option Bool :=
  match v with
  | 0 => some false
  | 1 => some true
  | _ => none

/-- The sixteen fields of a CONFIGURE record in index order (R202). -/
def settingsAt (b : List Byte) : Settings :=
  { frameLength := fieldAt b 1 1, lineRate := fieldAt b 2 1, heldWeight := fieldAt b 3 1, grace := fieldAt b 4 3
    reportStep := fieldAt b 7 2, digestBatch := fieldAt b 9 1, digestGap := fieldAt b 10 1, goneAge := fieldAt b 11 1
    askLimit := fieldAt b 12 1, closeLimit := fieldAt b 13 1, idleLimit := fieldAt b 14 1, capacity := fieldAt b 15 2
    windowLimit := fieldAt b 17 2, userRecords := fieldAt b 19 2, holdRecords := fieldAt b 21 2, dupEntries := fieldAt b 23 2 }

/-- The request a record of known code and sufficient length carries; none when an enumerated byte lies outside its codes (R202). -/
def requestAt (b : List Byte) : Option Request :=
  match fieldAt b 0 1 with
  | 0 => some .nop
  | 1 => some (.configure (settingsAt b))
  | 2 => some .restart
  | 3 => some .stationQuery
  | 4 => some .readCause
  | 5 => some .timebaseRetry
  | 16 => some (.access (.charge (fieldAt b 1 3) (fieldAt b 4 2)))
  | 17 => some (.access (.credit (fieldAt b 1 3) (fieldAt b 4 4)))
  | 18 => some (.access (.userLoad (fieldAt b 1 3) (fieldAt b 4 4) (fieldAt b 8 4) (fieldAt b 12 4)))
  | 19 => some (.access (.userLimits (fieldAt b 1 3) (fieldAt b 4 4) (fieldAt b 8 4)))
  | 20 => some (.access (.userFreeze (fieldAt b 1 3)))
  | 21 => some (.access (.userThaw (fieldAt b 1 3)))
  | 22 => some (.access (.userRetire (fieldAt b 1 3)))
  | 23 => some (.access (.userQuery (fieldAt b 1 3)))
  | 24 => some (.access (.userResync (fieldAt b 1 3)))
  | 25 => some (.access (.userWatch (fieldAt b 1 3)))
  | 26 => some (.access (.userUnwatch (fieldAt b 1 3)))
  | 32 => some (.peerQuery (fieldAt b 1 1))
  | 33 => some (.peerDrop (fieldAt b 1 1))
  | 34 => some .digestHold
  | 35 => some .digestResume
  | 48 => some .snapTake
  | 49 => some (.snapReady (epochAt b 1))
  | 50 =>
    match modeOf (fieldAt b 3 1) with
    | some m => some (.snapQuery (epochAt b 1) m)
    | none => none
  | 51 => some (.access (.hold (fieldAt b 1 3) (epochAt b 4) (fieldAt b 6 4)))
  | 52 =>
    match flagOf (fieldAt b 3 1) with
    | some d => some (.snapExpire (epochAt b 1) d)
    | none => none
  | 64 => some (.access (.restoreBegin (fieldAt b 1 3) (epochAt b 4) (fieldAt b 6 3)))
  | 65 => some (.access (.restoreProgress (fieldAt b 1 1) (fieldAt b 2 3)))
  | 66 => some (.access (.restoreEnd (fieldAt b 1 1)))
  | 80 => some (.dupExtent (epochAt b 1) (BitVec.ofNat 32 (fieldAt b 3 4)) (fieldAt b 7 2))
  | 81 => some (.dupEnd (epochAt b 1))
  | 82 => some .dupHalt
  | 83 => some .windowOpen
  | 84 => some .windowClose
  | 85 => some .grantTake
  | 86 =>
    match flagOf (fieldAt b 2 1) with
    | some f => some (.grantDone (fieldAt b 1 1) f)
    | none => none
  | 87 => some .dupQuery
  | _ => none

/-- What the bytes shifted in by a transaction amount to (R182): nothing that can be answered, a record refused BAD_REQUEST, or a
request. -/
inductive Record where
  /-- No whole byte. -/
  | noByte
  /-- A known code with fewer whole bytes than its record. -/
  | short
  /-- An unknown code, or an enumerated byte outside its codes. -/
  | malformed (code : Byte)
  | request (r : Request)
deriving DecidableEq, Repr

/-- The number that bits spell, most significant first. -/
def numberOfBits (b : List Bool) : Nat := b.foldl (fun n x => 2 * n + x.toNat) 0

/-- Eight samples as a byte, most significant bit first (R180). -/
def byteOfBits (b : List Bool) : Byte := BitVec.ofNat 8 (numberOfBits b)

/-- The whole bytes that samples of LDI make, and whether a remainder of 1 to 7 samples follows them (R180). -/
def octets : List Bool → List Byte × Bool
  | a :: b :: c :: d :: e :: f :: g :: h :: rest => (byteOfBits [a, b, c, d, e, f, g, h] :: (octets rest).1, (octets rest).2)
  | [] => ([], false)
  | _ => ([], true)

/-- Bytes as a transaction shifts them, most significant bit first (R180). -/
def shiftedBits (b : List Byte) : List Bool := b.flatMap byteBits

/-- Reads the whole bytes of a transaction; bytes beyond the record are padding (R180). -/
def parseRecord (b : List Byte) : Record :=
  match b with
  | [] => .noByte
  | code :: _ =>
    match recordLength code.toNat with
    | none => .malformed code
    | some n =>
      if b.length < n then .short
      else
        match requestAt b with
        | none => .malformed code
        | some r => .request r

/-- The fields of an access after its code (R202). -/
def Access.fields : Access → List Byte
  | .charge u n => bytesOf 3 u ++ bytesOf 2 n
  | .credit u n => bytesOf 3 u ++ bytesOf 4 n
  | .userLoad u soft hard live => bytesOf 3 u ++ bytesOf 4 soft ++ bytesOf 4 hard ++ bytesOf 4 live
  | .userLimits u soft hard => bytesOf 3 u ++ bytesOf 4 soft ++ bytesOf 4 hard
  | .userFreeze u => bytesOf 3 u
  | .userThaw u => bytesOf 3 u
  | .userRetire u => bytesOf 3 u
  | .userQuery u => bytesOf 3 u
  | .userResync u => bytesOf 3 u
  | .userWatch u => bytesOf 3 u
  | .userUnwatch u => bytesOf 3 u
  | .hold u e n => bytesOf 3 u ++ bytesOf 2 e.toNat ++ bytesOf 4 n
  | .restoreBegin u e n => bytesOf 3 u ++ bytesOf 2 e.toNat ++ bytesOf 3 n
  | .restoreProgress h k => bytesOf 1 h ++ bytesOf 3 k
  | .restoreEnd h => bytesOf 1 h

/-- The sixteen fields of CONFIGURE in index order (R202). -/
def settingsFields (c : Settings) : List Byte :=
  bytesOf 1 c.frameLength ++ bytesOf 1 c.lineRate ++ bytesOf 1 c.heldWeight ++ bytesOf 3 c.grace ++ bytesOf 2 c.reportStep ++
  bytesOf 1 c.digestBatch ++ bytesOf 1 c.digestGap ++ bytesOf 1 c.goneAge ++ bytesOf 1 c.askLimit ++ bytesOf 1 c.closeLimit ++
  bytesOf 1 c.idleLimit ++ bytesOf 2 c.capacity ++ bytesOf 2 c.windowLimit ++ bytesOf 2 c.userRecords ++ bytesOf 2 c.holdRecords ++
  bytesOf 2 c.dupEntries

/-- The code of a SNAP-QUERY mode (R204). -/
def modeCode : SnapMode → Nat
  | .exact => 1
  | .first => 2
  | .next => 3

/-- The fields of a request after its code (R202). -/
def Request.fields : Request → List Byte
  | .nop => []
  | .configure c => settingsFields c
  | .restart => []
  | .stationQuery => []
  | .readCause => []
  | .timebaseRetry => []
  | .access a => Access.fields a
  | .peerQuery st => bytesOf 1 st
  | .peerDrop st => bytesOf 1 st
  | .digestHold => []
  | .digestResume => []
  | .snapTake => []
  | .snapReady e => bytesOf 2 e.toNat
  | .snapQuery e m => bytesOf 2 e.toNat ++ bytesOf 1 (modeCode m)
  | .snapExpire e d => bytesOf 2 e.toNat ++ bytesOf 1 d.toNat
  | .dupExtent e token units => bytesOf 2 e.toNat ++ bytesOf 4 token.toNat ++ bytesOf 2 units
  | .dupEnd e => bytesOf 2 e.toNat
  | .dupHalt => []
  | .windowOpen => []
  | .windowClose => []
  | .grantTake => []
  | .grantDone h failed => bytesOf 1 h ++ bytesOf 1 failed.toNat
  | .dupQuery => []

/-- The request record: the code byte, then the fields (R180, R202). -/
def Request.bytes (r : Request) : List Byte := r.code :: r.fields

/-- The fields of a request fit their widths (R202). -/
def Request.wf : Request → Bool
  | .configure c => c.wf
  | .access a => a.wf
  | .peerQuery st => fitsBytes 1 st
  | .peerDrop st => fitsBytes 1 st
  | .dupExtent _ _ units => fitsBytes 2 units
  | .grantDone h _ => fitsBytes 1 h
  | .nop => true
  | .restart => true
  | .stationQuery => true
  | .readCause => true
  | .timebaseRetry => true
  | .digestHold => true
  | .digestResume => true
  | .snapTake => true
  | .snapReady _ => true
  | .snapQuery _ _ => true
  | .snapExpire _ _ => true
  | .dupEnd _ => true
  | .dupHalt => true
  | .windowOpen => true
  | .windowClose => true
  | .grantTake => true
  | .dupQuery => true

/-- The fields of a notice fit their widths, a USAGE figure with its top 4 bits clear (R47, R201). -/
def Notice.wf : Notice → Bool
  | .epochPropose _ => true
  | .epochReady _ => true
  | .epochLatest _ => true
  | .share b => fitsBytes 3 b
  | .usage u x => fitsBytes 3 u && decide (x ≤ Config.maxAU)
  | .presence _ => true

/-- The frame a receiver samples of a notice sent by a station, undisturbed (R47, R48). -/
def frameOf (st : Station) (n : Notice) : SampledFrame :=
  { priority := BitVec.ofNat 2 n.priority, kind := BitVec.ofNat 4 n.code, station := st, payload := n.payload
    check := checkOf (coveredBits n.priority n.code st.val n.payload) }

/-! ### Reply records (R202, R203, R204) -/

/-- The status codes (R203). -/
def Status.code : Status → Nat
  | .ok => 0
  | .okSoft => 1
  | .okClamped => 2
  | .replyPartial => 3
  | .halted => 4
  | .refusedHard => 16
  | .refusedLapsed => 17
  | .refusedFrozen => 18
  | .unknownUser => 32
  | .existsAlready => 33
  | .notEmpty => 34
  | .tableFull => 35
  | .poolFull => 36
  | .queueFull => 37
  | .catalogueFull => 38
  | .watchFull => 39
  | .jobsFull => 40
  | .noSuchEpoch => 48
  | .noSuchHandle => 49
  | .wrongState => 50
  | .busy => 51
  | .pinned => 52
  | .notOffsite => 53
  | .expiring => 54
  | .epochEnded => 55
  | .sweepBusy => 56
  | .noGrant => 57
  | .range => 64
  | .badRequest => 65
  | .badConfig => 66
  | .notConfigured => 67
  | .noReference => 68

/-- The "none" byte (R181, R203). -/
def noneByte : Byte := 255

def CatState.code : CatState → Nat
  | .asked => 1
  | .ready => 2
  | .closed => 3
  | .closedPartial => 4
  | .expiring => 5

def DupState.code : DupState → Nat
  | .notQueued => 1
  | .queued => 2
  | .ending => 3
  | .sent => 4
  | .incomplete => 5
  | .discarded => 6

def PeerState.code : PeerState → Nat
  | .absent => 1
  | .present => 2
  | .gone => 3

def LineState.code : LineState → Nat
  | .detached => 1
  | .idle => 2
  | .busy _ => 3
  | .sending => 4
  | .stuck => 5

def Source.code : Source → Nat
  | .unclocked => 1
  | .reference => 2
  | .internal => 3

def DupWork.code : DupWork → Nat
  | .extent _ _ _ => 1
  | .endMark _ => 2
  | .halt => 3

def NoGrant.code : NoGrant → Nat
  | .closed => 1
  | .grantsFull => 2
  | .empty => 3
  | .order => 4
  | .budget => 5

def DoneOutcome.code : DoneOutcome → Nat
  | .done => 1
  | .returned => 2
  | .dropped => 3

def CloseReason.code : CloseReason → Nat
  | .request => 1
  | .limit => 2
  | .halt => 3

def wiresCode : Wires → Nat
  | .cl => 1
  | .dl => 2
  | .both => 3

def FallbackWhy.code : FallbackWhy → Nat
  | .lost => 1
  | .retryFailed => 2
  | .absentAtStart => 3

def CauseKind.code : CauseKind → Nat
  | .lineStuck => 1
  | .addressClash => 2
  | .timebaseFallback => 3
  | .catalogueFull => 4
  | .graceExpired => 5
  | .watch => 6
  | .epochAsked => 7
  | .epochClosed => 8
  | .epochAbandoned => 9
  | .epochMissed => 10
  | .expiryDone => 11
  | .dropDone => 12
  | .dropCutShort => 13
  | .peerJoined => 14
  | .peerGone => 15
  | .peerReturned => 16
  | .restoreTimeout => 17
  | .dupExtentFailed => 18
  | .windowClosed => 19
  | .lineRestored => 20
  | .mixed => 21

/-- The subject tag and its three bytes (R202, R204). R202 states no bytes for SEVERAL: they are 0 (DESIGN CHOICE, log 39). -/
def Subject.fields : Subject → Nat × Nat
  | .several => (0, 0)
  | .user n => (1, n)
  | .epoch e => (2, e.toNat)
  | .station st => (3, st.val)
  | .handle h => (4, h)

/-- The value as a number: the codes of R204, and WINDOW_CLOSED's reason packed above its carried count (R202). R202 states no number for the
END mark, which its tag tells: it is 0 (DESIGN CHOICE, log 39). -/
def CauseValue.asNumber : CauseValue → Nat
  | .wires w => wiresCode w
  | .noticeKind c => c
  | .fallback w => w.code
  | .catalogue span => if span then 2 else 1
  | .userState st => st.code
  | .proposer st => st.val
  | .closedWhole whole => if whole then 1 else 2
  | .abandoned newer => if newer then 2 else 1
  | .number n => n
  | .token t => t.toNat
  | .endMark => 0
  | .window why carried => why.code * 2 ^ 24 + carried
  | .causeKind k => k.code

/-- The value tag: 0 absent, 1 a number, 2 the END mark (R202). -/
def valueTag : Option CauseValue → Nat
  | none => 0
  | some .endMark => 2
  | some _ => 1

/-- The value's four bytes. R202 gives an absent value its tag alone: its bytes are 0 (DESIGN CHOICE, log 39). -/
def valueNumber (v : Option CauseValue) : Nat :=
  match v with
  | none => 0
  | some c => c.asNumber

/-- A flag (R202). -/
def flagByte (b : Bool) : List Byte := bytesOf 1 b.toNat

/-- An *opt* field: a presence byte, and the field's own bytes 0 when it is absent (R202). -/
def optBytes (width : Nat) (v : Option Nat) : List Byte :=
  match v with
  | none => bytesOf 1 0 ++ bytesOf width 0
  | some n => bytesOf 1 1 ++ bytesOf width n

/-- An *opt group*: a presence byte, and `width` zero bytes when it is absent (R202). -/
def optGroup (width : Nat) (v : Option (List Byte)) : List Byte :=
  match v with
  | none => bytesOf 1 0 ++ List.replicate width 0
  | some b => bytesOf 1 1 ++ b

/-- The block A (R26, R202). -/
def UserBlock.bytes (a : UserBlock) : List Byte :=
  bytesOf 3 a.user ++ optBytes 1 (a.state.map UserState.code) ++ optBytes 4 a.estimate

/-- The epoch a duplication entry names. -/
def DupWork.epoch : DupWork → Option Epoch
  | .extent e _ _ => some e
  | .endMark e => some e
  | .halt => none

/-- The token of an EXTENT, else 0. -/
def DupWork.token : DupWork → Nat
  | .extent _ t _ => t.toNat
  | .endMark _ => 0
  | .halt => 0

/-- The units of an EXTENT, else 0 (R148). -/
def DupWork.units : DupWork → Nat
  | .extent _ _ n => n
  | .endMark _ => 0
  | .halt => 0

/-- A remote slot of USER-QUERY: station and units (R202). -/
def RemoteEntry.bytes (r : RemoteEntry) : List Byte := bytesOf 1 r.station.val ++ bytesOf 4 r.units

/-- The grace remaining, present in GRACE only (R2). -/
def UserState.remaining : UserState → Option Nat
  | .grace n => some n
  | .under => none
  | .lapsed => none
  | .frozen => none
  | .retiring => none

/-- The part of the USER-QUERY payload after A (R38, R202). -/
def reportBytes : Option UserReport → List Byte
  | none => List.replicate 67 0
  | some p =>
    bytesOf 4 p.record.soft ++ bytesOf 4 p.record.hard ++ bytesOf 4 p.record.live ++ bytesOf 4 p.record.held ++
    bytesOf 4 p.record.reserved ++ bytesOf 4 p.record.reported ++ flagByte p.record.reportDue ++ bytesOf 4 p.record.spill ++
    optBytes 3 p.record.state.remaining ++ bytesOf 4 p.weightedHeld ++ bytesOf 4 p.ownCharge ++ bytesOf 4 p.remoteSum ++
    flagByte p.watched ++ bytesOf 1 p.record.remote.length ++
    ((p.record.remote.flatMap RemoteEntry.bytes) ++ List.replicate 20 0).take 20

/-- The entry group of SNAP-QUERY (R202). -/
def CatEntry.bytes (c : CatEntry) : List Byte :=
  bytesOf 2 c.epoch.toNat ++ bytesOf 1 c.state.code ++ bytesOf 1 c.proposer.val ++
  optBytes 2 (c.early.map BitVec.toNat) ++ optBytes 2 (c.required.map BitVec.toNat) ++
  optBytes 2 (c.ready.map BitVec.toNat) ++ optBytes 2 (c.missing.map BitVec.toNat) ++ optBytes 2 c.timer ++
  bytesOf 4 c.heldTotal ++ bytesOf 2 c.holdCount ++ bytesOf 1 c.pins ++ bytesOf 1 c.dupState.code ++
  flagByte c.failedExtent ++ bytesOf 2 c.queuedCount ++ bytesOf 1 c.inFlight

/-- The group of SNAP-EXPIRE (R202). -/
def CatEntry.expireBytes (c : CatEntry) : List Byte :=
  bytesOf 1 c.state.code ++ bytesOf 1 c.pins ++ bytesOf 1 c.inFlight ++ bytesOf 2 c.queuedCount ++ bytesOf 1 c.dupState.code

/-- The record group of READ-CAUSE (R202). -/
def CauseRec.bytes (r : CauseRec) : List Byte :=
  bytesOf 1 r.kind.code ++ bytesOf 1 r.subject.fields.1 ++ bytesOf 3 r.subject.fields.2 ++ bytesOf 1 (valueTag r.value) ++
  bytesOf 4 (valueNumber r.value) ++ bytesOf 1 r.count ++ bytesOf 2 r.frame.toNat ++ bytesOf 1 (if r.urgent then 2 else 1)

/-- The ten free counts in the order of STATION-QUERY (R192, R202). -/
def FreeCounts.bytes (f : FreeCounts) : List Byte :=
  optBytes 2 f.users ++ optBytes 2 f.holds ++ optBytes 2 f.dups ++ bytesOf 2 f.catalogue ++ bytesOf 2 f.jobs ++ bytesOf 2 f.grants ++
  bytesOf 2 f.outbound ++ bytesOf 2 f.receive ++ bytesOf 2 f.causes ++ bytesOf 2 f.watch

/-- The payload of a reply (R202). -/
def ReplyBody.bytes : ReplyBody → List Byte
  | .empty => []
  | .configure st bad sum unused src =>
    bytesOf 1 st.val ++ bytesOf 1 bad ++ bytesOf 4 sum ++ bytesOf 4 unused ++ bytesOf 1 ((src.map Source.code).getD 0)
  | .restart jobs grants => bytesOf 1 jobs ++ bytesOf 1 grants
  | .stationQuery st running line src frame latest pa pp pg free =>
    bytesOf 1 st.val ++ bytesOf 1 (if running then 2 else 1) ++ bytesOf 1 line.code ++ bytesOf 1 src.code ++ bytesOf 2 frame.toNat ++
    optBytes 2 (latest.map BitVec.toNat) ++ bytesOf 1 pa ++ bytesOf 1 pp ++ bytesOf 1 pg ++ free.bytes
  | .readCause record left urgentLeft => optGroup 14 (record.map CauseRec.bytes) ++ bytesOf 1 left ++ bytesOf 1 urgentLeft
  | .timebaseRetry src pending refPresent frame already =>
    bytesOf 1 src.code ++ flagByte pending ++ flagByte refPresent ++ bytesOf 2 frame.toNat ++ flagByte already
  | .charge a tested => a.bytes ++ optBytes 4 tested
  | .credit a removed => a.bytes ++ bytesOf 4 removed
  | .user a => a.bytes
  | .userFreeze a former => a.bytes ++ optBytes 1 (former.map UserState.code)
  | .userQuery a report => a.bytes ++ reportBytes report
  | .userWatch a listed entries => a.bytes ++ flagByte listed ++ bytesOf 1 entries
  | .peerQuery p counts drop =>
    bytesOf 1 p.state.code ++ bytesOf 1 p.framesSince ++ optBytes 2 (p.latest.map BitVec.toNat) ++ optBytes 3 p.backlog ++
    bytesOf 1 p.shareAge ++ flagByte counts ++ flagByte drop
  | .peerDrop => []
  | .digest before => flagByte before
  | .snapTake e => optBytes 2 (e.map BitVec.toNat)
  | .snapReady required ready closed => bytesOf 2 required.toNat ++ bytesOf 2 ready.toNat ++ flagByte closed
  | .snapQuery latest entries entry =>
    optBytes 2 (latest.map BitVec.toNat) ++ bytesOf 1 entries ++ optGroup 31 (entry.map CatEntry.bytes)
  | .hold a units fresh free => a.bytes ++ bytesOf 4 units ++ flagByte fresh ++ bytesOf 2 free
  | .snapExpire before count completed purged =>
    optGroup 6 (before.map CatEntry.expireBytes) ++ bytesOf 2 count ++ flagByte completed ++ bytesOf 2 purged
  | .restoreBegin a tested handle => a.bytes ++ optBytes 4 tested ++ optBytes 1 handle
  | .restoreProgress a moved r m => a.bytes ++ bytesOf 4 moved ++ bytesOf 4 r ++ bytesOf 4 m
  | .restoreEnd a m released => a.bytes ++ bytesOf 4 m ++ bytesOf 4 released
  | .dupQueue free st queued units parity absorbed =>
    bytesOf 2 free ++ bytesOf 1 ((st.map DupState.code).getD 0) ++ bytesOf 2 queued ++ optBytes 2 units ++
    optBytes 1 (parity.map Bool.toNat) ++ flagByte absorbed
  | .dupHalt free => bytesOf 2 free
  | .windowOpen night backlog share tonight =>
    bytesOf 1 ((night.map BitVec.toNat).getD 0) ++ bytesOf 4 backlog ++ bytesOf 4 share ++ bytesOf 2 tonight
  | .windowClose carried => bytesOf 2 carried
  | .grantTake reason remaining budget debt tonight carried grant =>
    bytesOf 1 ((reason.map NoGrant.code).getD 0) ++ bytesOf 4 remaining ++ bytesOf 4 budget ++ bytesOf 4 debt ++ bytesOf 2 tonight ++
    bytesOf 2 carried ++
    optGroup 14 (grant.map fun g =>
      bytesOf 1 g.1 ++ bytesOf 1 g.2.1.code ++ optBytes 2 (g.2.1.epoch.map BitVec.toNat) ++ bytesOf 4 g.2.1.token ++
      bytesOf 4 g.2.1.units ++ bytesOf 1 g.2.2)
  | .grantDone outcome retries work st =>
    bytesOf 1 ((outcome.map DoneOutcome.code).getD 0) ++ bytesOf 1 retries ++ bytesOf 1 ((work.map DupWork.code).getD 0) ++
    optBytes 2 ((work.bind DupWork.epoch).map BitVec.toNat) ++ bytesOf 4 ((work.map DupWork.token).getD 0) ++
    optBytes 1 (st.map DupState.code)
  | .dupQuery window night share budget remaining debt backlog peerTotal tonight nextNight inFlight free slots head =>
    bytesOf 1 (if window.isSome then 2 else 1) ++ bytesOf 1 night.toNat ++ optBytes 2 window ++ bytesOf 4 share ++ bytesOf 4 budget ++
    bytesOf 4 remaining ++ bytesOf 4 debt ++ bytesOf 4 backlog ++ bytesOf 4 peerTotal ++ bytesOf 2 tonight ++ bytesOf 2 nextNight ++
    bytesOf 1 inFlight ++ bytesOf 2 free ++ bytesOf 1 slots ++
    optGroup 5 (head.map fun h =>
      bytesOf 1 h.work.code ++ optBytes 2 (h.work.epoch.map BitVec.toNat) ++ bytesOf 1 h.parity.toNat)

/-- A reply record: status, echoed code, overrun mark, payload (R180, R202). -/
def Reply.bytes (r : Reply) : List Byte := bytesOf 1 r.status.code ++ [r.code] ++ flagByte r.mark ++ r.body.bytes

/-- Byte `i` shifted out on LDO by the transaction in progress: the reply chosen at its start, or the byte "none", then zeros (R181);
zeros while RESET is low (R191). While no transaction is in progress the rules give LDO no value: zeros (DESIGN CHOICE, log 38). -/
def State.ldoByte (i : Nat) (s : State) : Byte :=
  if s.resetLow then 0
  else
    match s.link.txn with
    | none => 0
    | some t =>
      match t.out with
      | some r => r.bytes.getD i 0
      | none => if i = 0 then noneByte else 0

/-- The bit on LDO at the rising edge of LCLK that `i` rising edges of the transaction precede: most significant bit first, the first from
the fall of LSEL on (R180). -/
def State.ldoBit (i : Nat) (s : State) : Bool := (s.ldoByte (i / 8)).getMsbD (i % 8)

/-- This station holds CL low by its own stretch (R55). -/
def State.stretchesCL (s : State) : Bool :=
  match s.line.rx with
  | .stretching _ _ => true
  | .noFrame => false
  | .receiving _ => false
  | .judged _ => false

/-- The slot in which this station drives DL low (R56). -/
def State.slotDriven (s : State) : Option Slot :=
  match s.line.rx with
  | .judged slot => slot
  | .noFrame => none
  | .receiving _ => none
  | .stretching _ _ => none

end Sys2Proof.Machine
end

