-- ==== Sys2Proof/Machine/Outbound.lean ====
section
/-! DEFINITION. The outbound queue: offers, replacement, displacement, withdrawal, the end of a transmission (R57 to R61), what an end means to
the owning block (R37, R83, R85), and the placing of final notices (R35, R36). -/

namespace Sys2Proof.Machine

/-- A USAGE notice. -/
def Notice.isUsage : Notice → Bool
  | .usage _ _ => true
  | .epochPropose _ => false
  | .epochReady _ => false
  | .epochLatest _ => false
  | .share _ => false
  | .presence _ => false

/-- A USAGE notice for a user. -/
def Notice.isUsageOf (user : Nat) : Notice → Bool
  | .usage u _ => u == user
  | .epochPropose _ => false
  | .epochReady _ => false
  | .epochLatest _ => false
  | .share _ => false
  | .presence _ => false

/-- A SHARE notice. -/
def Notice.isShare (n : Notice) : Bool := n.priority == 1

/-- A PRESENCE notice. -/
def Notice.isPresence (n : Notice) : Bool := n.priority == 3

/-- An epoch notice: EPOCH-PROPOSE, EPOCH-READY or EPOCH-LATEST. -/
def Notice.isEpoch (n : Notice) : Bool := n.priority == 0

/-- The USAGE notices queued. -/
def usageCount (l : List QNotice) : Nat := (l.filter fun q => q.notice.isUsage).length

/-- The queue takes a USAGE for a user who has none queued (R35, R59, R81). -/
def usageRoom (l : List QNotice) : Bool := decide (usageCount l < Config.usageSlots) && decide (l.length < Config.outboundSlots)

/-- Appends in order of priority and then age (R59). -/
def insertNotice (q : QNotice) : List QNotice → List QNotice
  | [] => [q]
  | x :: xs => if q.notice.priority < x.notice.priority then q :: x :: xs else x :: insertNotice q xs

/-- An entry of the queue as it enters: attempt count 0, not in transmission (R57). -/
def enter (n : Notice) (final : Bool) : QNotice := { notice := n, attempts := 0, sending := false, final := final }

/-- Appends a notice. -/
def Outbound.append (n : Notice) (final : Bool) (o : Outbound) : Outbound := { o with queue := insertNotice (enter n final) o.queue }

/-- A notice that meets `same` is queued. -/
def Outbound.has (same : Notice → Bool) (o : Outbound) : Bool := o.queue.any fun q => same q.notice

/-- A notice that meets `same` is queued and in transmission. -/
def Outbound.sends (same : Notice → Bool) (o : Outbound) : Bool := o.queue.any fun q => same q.notice && q.sending

/-- Replacement (R60): in place with attempt count 0, or as the successor of the notice in transmission. -/
def Outbound.replace (same : Notice → Bool) (n : Notice) (final : Bool) (o : Outbound) : Outbound :=
  if o.sends same then { o with successor := some { notice := n, final := final } }
  else
    { o with
      queue :=
        modifyFirst (fun q => same q.notice) (fun q => { q with notice := n, attempts := 0, final := final }) o.queue }

/-- An offer of a notice of which the queue holds at most one (R59): replaced, appended when there is room, else refused. -/
def Outbound.offer (same : Notice → Bool) (room : Bool) (n : Notice) (o : Outbound) : Outbound :=
  if o.has same then o.replace same n false else if room then o.append n false else o

/-- The Digest Sweep's offer of USAGE (R59, R82). -/
def State.offerUsage (user units : Nat) (s : State) : State :=
  { s with out := s.out.offer (Notice.isUsageOf user) (usageRoom s.out.queue) (.usage user units) }

/-- The Duplication Unit's offer of SHARE (R59, R161). -/
def State.offerShare (backlog : Nat) (s : State) : State :=
  { s with out := s.out.offer Notice.isShare (decide (s.out.queue.length < Config.outboundSlots)) (.share backlog) }

/-- The Peer View's offer of PRESENCE with the latest known epoch (R59, R74). -/
def State.offerPresence (s : State) : State :=
  { s with out := s.out.offer Notice.isPresence (decide (s.out.queue.length < Config.outboundSlots)) (.presence s.latest) }

/-- What a notice's leaving the queue means to its owner. A USAGE restarts the digest gap timer (R83). A final notice of a RETIRING record
frees it at the end of its transmission (R37), and waits again when displaced (R36). Another USAGE that was dropped or displaced owes
report due (R61, R85). The other ends and kinds need nothing (R58, R113, R161). -/
def State.depart (q : QNotice) (e : NoticeEnd) (s : State) : State :=
  match q.notice with
  | .usage user _ =>
    let t := { s with digest := { s.digest with gapTimer := 0 } }
    if q.final && s.isRetiring user then
      match e with
      | .delivered => { t with freeOwed := t.freeOwed ++ [user] }
      | .noListener => { t with freeOwed := t.freeOwed ++ [user] }
      | .dropped => { t with freeOwed := t.freeOwed ++ [user] }
      | .clash => { t with freeOwed := t.freeOwed ++ [user] }
      | .displaced => { t.setDue user with finalWaiting := t.finalWaiting ++ [user] }
      | .superseded => t
      | .withdrawn => t
    else
      match e with
      | .dropped => if q.final then t else { t with dueOwed := t.dueOwed ++ [user] }
      | .displaced => { t with dueOwed := t.dueOwed ++ [user] }
      | .delivered => t
      | .noListener => t
      | .clash => t
      | .superseded => t
      | .withdrawn => t
  | .epochPropose _ => s
  | .epochReady _ => s
  | .epochLatest _ => s
  | .share _ => s
  | .presence _ => s

/-- A USAGE that a final notice may displace: not in transmission, and not a RETIRING user's final notice (R61). -/
def State.finalMayDisplace (s : State) (q : QNotice) : Bool :=
  q.notice.isUsage && !q.sending &&
  match q.notice with
  | .usage u _ => !(q.final && s.isRetiring u)
  | .epochPropose _ => false
  | .epochReady _ => false
  | .epochLatest _ => false
  | .share _ => false
  | .presence _ => false

/-- The newest queued notice that meets `p`. -/
def newestNotice (p : QNotice → Bool) (l : List QNotice) : Option QNotice := l.reverse.find? p

/-- The placing of a user's final notice (R35): in place, as a successor, appended, or displacing the newest USAGE that qualifies; none
when it cannot be placed. -/
def State.placeFinal (user : Nat) (s : State) : Option State :=
  if s.out.has (Notice.isUsageOf user) then
    some { s with out := s.out.replace (Notice.isUsageOf user) (.usage user 0) true }
  else if usageRoom s.out.queue then some { s with out := s.out.append (.usage user 0) true }
  else
    match newestNotice s.finalMayDisplace s.out.queue with
    | none => none
    | some q =>
      some (State.depart q .displaced
        { s with out := Outbound.append (.usage user 0) true { s.out with queue := s.out.queue.erase q } })

/-- One waiting final notice is tried; when it is placed, report due is cleared and it waits no more (R36). -/
def State.placeOneWaiting (s : State) (user : Nat) : State :=
  match s.placeFinal user with
  | none => s
  | some t => { t.clearDue user with finalWaiting := t.finalWaiting.filter (fun u => u != user) }

/-- The moment at which a notice left the queue or a transmission ended: the waiting final notices are tried in the order in which they
began to wait (R36). -/
def State.placeWaiting (s : State) : State := s.finalWaiting.foldl State.placeOneWaiting s

/-- USER-RETIRE's placing of a final notice (R35). A USAGE that it displaces leaves the queue, and at that moment the final notices already
waiting are tried (R36, R58, R61). In `placeOneWaiting` that needs no further try: what one waiting final notice may displace, every other
may, and the later ones are tried in their turn. -/
def State.placeNow (user : Nat) (s : State) : Option State :=
  if s.out.has (Notice.isUsageOf user) || usageRoom s.out.queue then s.placeFinal user else (s.placeFinal user).map State.placeWaiting

/-- The transmission ends with `e`, or with SUPERSEDED when the notice has a successor, which is then appended without needing room (R57,
R58, R60). -/
def State.endTransmission (e : NoticeEnd) (s : State) : State :=
  match s.out.queue.find? (fun q => q.sending) with
  | none => s
  | some q =>
    match s.out.successor with
    | some x =>
      (State.depart q .superseded
        { s with
          out := Outbound.append x.notice x.final
            { queue := s.out.queue.eraseP (fun q => q.sending), successor := none } }).placeWaiting
    | none =>
      (State.depart q e { s with out := { queue := s.out.queue.eraseP (fun q => q.sending), successor := none } }).placeWaiting

/-- The notice in transmission is queued again with its attempt count changed by `f`. -/
def Outbound.stopSending (f : Nat → Nat) (o : Outbound) : Outbound :=
  { o with
    queue := modifyFirst (fun q => q.sending) (fun q => { q with attempts := f q.attempts, sending := false }) o.queue }

/-- The attempt is abandoned (R50, R51, R65): the notice keeps its place and attempt count, or leaves SUPERSEDED when it has a
successor. Where the notice stays queued no transmission has ended, and the waiting final notices are not tried: R60 tells the end of a
transmission from an abandoned attempt (DEDUCED, log 15). -/
def State.abandonAttempt (s : State) : State :=
  match s.out.successor with
  | some _ => s.endTransmission .superseded
  | none => { s with out := s.out.stopSending (fun n => n) }

/-- An attempt that counts (R57): the notice is sent again, or is dropped at the third; a notice with a successor leaves SUPERSEDED. The
waiting final notices are tried also where the notice stays queued (DEDUCED, log 15). -/
def State.failAttempt (s : State) : State :=
  match s.out.queue.find? (fun q => q.sending) with
  | none => s
  | some q =>
    if s.out.successor.isSome || Config.maxAttempts ≤ q.attempts + 1 then s.endTransmission .dropped
    else { s with out := s.out.stopSending (fun n => n + 1) }.placeWaiting

/-- The notice an epoch notice displaces from a full queue: the first that is not in transmission of the newest USAGE, the PRESENCE, the
SHARE, the oldest epoch notice (R61). -/
def epochVictim (l : List QNotice) : Option QNotice :=
  match newestNotice (fun q => q.notice.isUsage && !q.sending) l with
  | some q => some q
  | none =>
    match l.find? (fun q => q.notice.isPresence && !q.sending) with
    | some q => some q
    | none =>
      match l.find? (fun q => q.notice.isShare && !q.sending) with
      | some q => some q
      | none => l.find? (fun q => q.notice.isEpoch && !q.sending)

/-- An epoch notice is always taken (R59): as one already queued, appended, or appended after a displacement (R61). At most one notice is
in transmission (R49), so a full queue always holds one to displace. -/
def State.offerEpoch (n : Notice) (s : State) : State :=
  if s.out.has (fun m => decide (m = n)) then s
  else if s.out.queue.length < Config.outboundSlots then { s with out := s.out.append n false }
  else
    match epochVictim s.out.queue with
    | none => s
    | some q =>
      State.depart q .displaced
        (State.placeWaiting { s with out := Outbound.append n false { s.out with queue := s.out.queue.erase q } })

/-- A queued notice that meets `p` and is not in transmission is withdrawn (R61). -/
def State.withdraw (p : Notice → Bool) (s : State) : State :=
  match s.out.queue.find? (fun q => p q.notice && !q.sending) with
  | none => s
  | some q => (State.depart q .withdrawn { s with out := { s.out with queue := s.out.queue.erase q } }).placeWaiting

end Sys2Proof.Machine
end

