-- ==== Sys2Proof/Machine/FollowOn.lean ====
section
/-! DEFINITION. What an event leaves to rows of its own: the ends of notices (R37, R85), the freed receive-queue entry (R55), and a frame boundary's
expiries (R72, R110, R111, R141, R160). Each has its own command; `State.settle` makes those still owed before any other event that could see
them (log 6, log 8). Shared with them: the close test, abandonment and the closing of the window. -/

namespace Sys2Proof.Machine

/-! ### The Snapshot Catalogue's shared operations -/

/-- The set of an entry as the close test reads it. -/
def setOf (s : Option StationSet) : StationSet := s.getD 0#16

/-- The close test of one entry (R108): a READY entry whose required set lies within its ready set becomes CLOSED. -/
def closes (c : CatEntry) : Bool := decide (c.state = .ready) && within (setOf c.required) (setOf c.ready)

/-- The entry as a passed close test leaves it (R108). -/
def closedEntry (c : CatEntry) : CatEntry := if closes c then { c with state := .closed, timer := none } else c

/-- The close test of epoch e's entry, with EPOCH_CLOSED (R108). -/
def State.closeTest (e : Epoch) (s : State) : State :=
  match s.findEpoch e with
  | none => s
  | some c =>
    if closes c then
      (s.modifyEpoch e closedEntry).raise .epochClosed (.epoch e) (some (.closedWhole true))
    else s

/-- The ASKED entry, if there is one (R95). -/
def State.askedEntry (s : State) : Option CatEntry := s.cat.find? fun c => decide (c.state = .asked)

/-- Abandonment of the ASKED entry (R100): it is removed, EPOCH_ABANDONED is raised, and an own EPOCH-PROPOSE for it is withdrawn. -/
def State.abandonAsked (newerEpoch : Bool) (s : State) : State :=
  match s.askedEntry with
  | none => s
  | some c =>
    let t := State.raise .epochAbandoned (.epoch c.epoch) (some (.abandoned newerEpoch))
      { s with cat := s.cat.eraseP fun c => decide (c.state = .asked) }
    if c.proposer = s.station then t.withdraw (fun n => decide (n = .epochPropose c.epoch)) else t

/-- A GONE station leaves the required set of one READY entry, and the close test runs on it (R109). -/
def State.dropRequired (st : Station) (s : State) (e : Epoch) : State :=
  match s.findEpoch e with
  | none => s
  | some c =>
    if c.state = .ready then
      (s.modifyEpoch e fun c => { c with required := c.required.map (removeFrom st) }).closeTest e
    else s

/-! ### The Duplication Unit's shared operations -/

/-- Tonight's parity, n mod 2 (R149). -/
def Dup.tonightParity (d : Dup) : Bool := d.night.getLsbD 0

/-- The parity an entry takes while the window is open, and the one it takes for the next night (R149). -/
def Dup.nextParity (d : Dup) : Bool := !d.tonightParity

/-- An entry is of tonight: the window is open and its parity is tonight's (R149). -/
def Dup.isTonight (d : Dup) (q : DupEntry) : Bool := d.window.isSome && q.parity == d.tonightParity

/-- The queued entries of tonight. -/
def Dup.tonight (d : Dup) : List DupEntry := d.queue.filter d.isTonight

/-- The sum of the units of entries. -/
def dupUnits : List DupEntry → Nat
  | [] => 0
  | q :: qs => q.work.units + dupUnits qs

/-- The backlog b (R158). -/
def Dup.backlog (d : Dup) : Nat := dupUnits d.tonight

/-- The share (R159). -/
def shareOf (capacity b peerTotal : Nat) : Nat := if b = 0 then 0 else max 1 (capacity * b / (b + peerTotal))

/-- The Duplication Unit as a closing leaves it (R157): tonight's entries re-marked, the share and budgets 0, the debt kept. -/
def Dup.closed (d : Dup) : Dup :=
  { d with
    queue := d.queue.map fun q => if d.isTonight q then { q with parity := d.nextParity } else q
    window := none, share := 0, frameBudget := 0, remaining := 0 }

/-- The closing of the window (R157); the carried count is `s.dup.tonight.length`. -/
def State.closeWindow (why : CloseReason) (s : State) : State :=
  (State.offerShare 0 { s with dup := s.dup.closed }).raise .windowClosed (.station s.station)
    (some (.window why s.dup.tonight.length))

/-! ### The follow-on steps -/

/-- A RETIRING record whose final notice's transmission has ended is freed between two accesses (R37). -/
def State.freeRetired (user : Nat) (s : State) : State :=
  if user ∈ s.freeOwed then
    let t := { s with freeOwed := s.freeOwed.erase user }
    if s.isRetiring user then t.freeUser user else t
  else s

/-- Report due is set again for a USAGE dropped or displaced, when the record is present and not RETIRING (R85). -/
def State.dueAfterLoss (user : Nat) (s : State) : State :=
  if user ∈ s.dueOwed then
    let t := { s with dueOwed := s.dueOwed.erase user }
    match s.findActive user with
    | none => t
    | some _ => t.setDue user
  else s

/-- The stretched notice takes an entry that left the receive queue; CL is released and slot A driven (R55). -/
def State.takeStretched (s : State) : State :=
  match s.line.rx with
  | .stretching sender n =>
    if s.recv.length < Config.receiveSlots then
      { s with
        recv := s.recv ++ [{ sender := sender, notice := n, available := false }]
        line := { s.line with rx := .judged (some .slotA) } }
    else s
  | .noFrame => s
  | .receiving _ => s
  | .judged _ => s

/-- A PRESENT entry that has reached the gone age becomes GONE, with PEER_GONE, and the station leaves the required sets (R72, R109). -/
def State.agePeer (st : Station) (s : State) : State :=
  if (s.peer st).state = .present ∧ s.settings.goneAge ≤ (s.peer st).framesSince ∧ st ≠ s.station then
    let t := (s.setPeer st { s.peer st with state := .gone }).raise .peerGone (.station st) none
    (s.cat.map CatEntry.epoch).foldl (State.dropRequired st) t
  else s

/-- An ASKED entry whose ask timer has reached 0 is abandoned with reason TIMEOUT (R110). -/
def State.expireAsk (s : State) : State :=
  match s.askedEntry with
  | none => s
  | some c => if c.timer = some 0 then s.abandonAsked false else s

/-- The entry as a close timer that ran out leaves it (R111). -/
def partialEntry (c : CatEntry) : CatEntry :=
  { c with state := .closedPartial, timer := none, missing := some (setOf c.required &&& ~~~ setOf c.ready) }

/-- A READY entry whose close timer has reached 0 becomes PARTIAL (R111). -/
def State.expireClose (s : State) (e : Epoch) : State :=
  match s.findEpoch e with
  | none => s
  | some c =>
    if c.state = .ready ∧ c.timer = some 0 then
      (s.modifyEpoch e partialEntry).raise .epochClosed (.epoch e) (some (.closedWhole false))
    else s

/-- A job has reached the restore idle limit and its release is not yet offered (R141). -/
def State.idleDue (s : State) (i : Fin 8) : Bool :=
  match (s.jobSlot i).job with
  | none => false
  | some j => !j.releaseWaiting && decide (s.settings.idleLimit ≤ j.idle)

/-- The job's release waiting flag is set, and its idle-timeout release begins to wait in class 1 (R141). -/
def State.offerRelease (s : State) (i : Fin 8) : State :=
  match (s.jobSlot i).job with
  | none => s
  | some j =>
    if s.idleDue i then
      { s.setJob i { gen := (s.jobSlot i).gen, job := some { j with releaseWaiting := true } } with
        class1 := s.class1 ++ [.idleRelease i (s.jobSlot i).gen] }
    else s

/-- An open window whose timer has reached 0 closes with reason LIMIT (R160). -/
def State.expireWindow (s : State) : State := if s.dup.window = some 0 then s.closeWindow .limit else s

/-- Everything owed, in the model's default order (log 7): the ends of notices, the stretched notice, then the reactions to the last
boundary: peers in ascending order, the ask timer, close timers in catalogue order, idle limits in ascending slot order, the window; last the
losses that an abandonment left. -/
def State.settle (s : State) : State :=
  let a := s.freeOwed.foldl (fun t u => State.freeRetired u t) s
  let b := a.dueOwed.foldl (fun t u => State.dueAfterLoss u t) a
  let c := (List.finRange 16).foldl (fun t st => State.agePeer st t) b.takeStretched
  let d := c.expireAsk
  let e := (d.cat.map CatEntry.epoch).foldl State.expireClose d
  let f := ((List.finRange 8).foldl State.offerRelease e).expireWindow
  f.dueOwed.foldl (fun t u => State.dueAfterLoss u t) f

/-- Nothing is owed: no end of a notice, no stretched notice with room, no reaction to the last boundary. -/
def State.settled (s : State) : Bool :=
  s.freeOwed.isEmpty && s.dueOwed.isEmpty &&
  (match s.line.rx with
    | .stretching _ _ => decide (Config.receiveSlots ≤ s.recv.length)
    | .noFrame => true
    | .receiving _ => true
    | .judged _ => true) &&
  ((List.finRange 16).all fun st =>
    !(decide ((s.peer st).state = .present) && decide (s.settings.goneAge ≤ (s.peer st).framesSince) && decide (st ≠ s.station))) &&
  (match s.askedEntry with
    | none => true
    | some c => decide (c.timer ≠ some 0)) &&
  (s.cat.all fun c => !(decide (c.state = .ready) && decide (c.timer = some 0))) &&
  ((List.finRange 8).all fun i => !s.idleDue i) && decide (s.dup.window ≠ some 0)

end Sys2Proof.Machine
end

