-- ==== Sys2Proof/Machine/LocalLink.lean ====
section
/-! DEFINITION. The Local Link's transactions (R180 to R186), how a request is taken and answered (R183), and how a client is served at the
Quota Table's arbiter (R14). -/

namespace Sys2Proof.Machine

/-- What a block answers a request: the state it leaves, and the status and payload of the reply. -/
abbrev Answer := State × Status × ReplyBody

/-! ### Transactions -/

/-- The fall of LSEL (R181): what is shifted out is chosen, and whether a request is in progress is noted (R184). -/
def Link.start (l : Link) : Link :=
  match l.txn with
  | some _ => l
  | none => { l with txn := some { out := l.reply, eighthEdge := false, requestAtStart := l.inProgress.isSome } }

/-- The eighth rising edge of LCLK: a reply being shifted out is delivered (R181). -/
def Link.deliver (l : Link) : Link :=
  match l.txn with
  | none => l
  | some t =>
    if t.eighthEdge then l
    else
      { l with
        reply := if t.out.isSome then none else l.reply
        txn := some { t with eighthEdge := true } }

/-- A request was in progress when the transaction began. -/
def Link.requestAtStart (l : Link) : Bool :=
  match l.txn with
  | none => false
  | some t => t.requestAtStart

/-- The transaction is over (R180). -/
def Link.finish (l : Link) : Link := { l with txn := none }

/-- The overrun mark is set on the reply of the request that was in progress at the start: still being formed, or already pending
(R184). -/
def Link.overrun (l : Link) : Link :=
  match l.inProgress with
  | some p => { l with inProgress := some { p with mark := true } }
  | none => { l with reply := l.reply.map fun r => { r with mark := true } }

/-- A reply becomes pending (R183). -/
def State.answer (status : Status) (code : Byte) (mark : Bool) (body : ReplyBody) (s : State) : State :=
  { s with link := { s.link with reply := some { status := status, code := code, mark := mark, body := body } } }

/-- A request taken at once is handled within the event of its taking (R183). -/
def State.takeAtOnce (code : Byte) (handle : State → Answer) (s : State) : State :=
  (handle s.settle).1.answer (handle s.settle).2.1 code false (handle s.settle).2.2

/-- CONFIGURE, STATION-QUERY and READ-CAUSE are taken before CONFIGURE is accepted (R182, R186). -/
def Request.takenUnconfigured : Request → Bool
  | .configure _ => true
  | .stationQuery => true
  | .readCause => true
  | .nop => false
  | .restart => false
  | .timebaseRetry => false
  | .access _ => false
  | .peerQuery _ => false
  | .peerDrop _ => false
  | .digestHold => false
  | .digestResume => false
  | .snapTake => false
  | .snapReady _ => false
  | .snapQuery _ _ => false
  | .snapExpire _ _ => false
  | .dupExtent _ _ _ => false
  | .dupEnd _ => false
  | .dupHalt => false
  | .windowOpen => false
  | .windowClose => false
  | .grantTake => false
  | .grantDone _ _ => false
  | .dupQuery => false

/-- Tests 4 to 6 of R182 on a well-formed record, after the transaction's end; `take` hands the request to its owning block. -/
def State.admitRequest (r : Request) (take : State → State) (s : State) : State :=
  if r = .nop then s
  else if s.link.running || r.takenUnconfigured then take s
  else s.answer .notConfigured r.code false .empty

/-- The rise of LSEL (R182). `record` is what the whole bytes spell, `trailing` a partial byte after them. A rise without a fall before
it begins its transaction at the same moment (log 11). While RESET is low no transaction is taken, and the rise of LSEL that ends one which a
reset abandoned, or which began while RESET was low, is not judged (R191, log 40). -/
def State.endTransaction (record : Record) (trailing : Bool) (take : Request → State → State) (s : State) : State :=
  if s.resetLow || s.ignored then { s with ignored := false }
  else
    match record with
    | .noByte => { s with link := s.link.start.finish }
    | .short => { s with link := s.link.start.deliver.finish }
    | .malformed code =>
      if s.link.start.requestAtStart then { s with link := s.link.start.deliver.finish.overrun }
      else State.answer .badRequest code false .empty { s with link := s.link.start.deliver.finish }
    | .request r =>
      if s.link.start.requestAtStart && !(decide (r = .nop) && !trailing) then { s with link := s.link.start.deliver.finish.overrun }
      else if trailing then State.answer .badRequest r.code false .empty { s with link := s.link.start.deliver.finish }
      else State.admitRequest r (take r) { s with link := s.link.start.deliver.finish }

/-- A transaction that carries the record of one request, whole (R182). -/
def State.endWith (r : Request) (take : State → State) (s : State) : State := s.endTransaction (.request r) false fun _ => take

/-- A transaction that carries a request taken at once. -/
def State.requestAtOnce (r : Request) (handle : State → Answer) (s : State) : State := s.endWith r (State.takeAtOnce r.code handle)

/-- The taking of a Quota Table access: it is in progress and begins to wait at the arbiter in class 1 (R183, R14). -/
def State.takeAccess (a : Access) (s : State) : State :=
  let t := s.settle
  { t with
    link := { t.link with inProgress := some { code := Access.code a, mark := false, work := .access a } }
    class1 := t.class1 ++ [.request] }

/-! ### The arbiter (R14) -/

/-- The notice at the head of the receive queue, once available (R62). -/
def State.headNotice (s : State) : Option RxNotice :=
  match s.recv with
  | [] => none
  | r :: _ => if r.available then some r else none

/-- A class 2 client waits: the head of the receive queue is a USAGE notice. -/
def State.class2Waits (s : State) : Bool :=
  match s.headNotice with
  | none => false
  | some r => r.notice.isUsage

/-- A class 3 client waits: a step of the Sweep Engine (R126). -/
def State.class3Waits (s : State) : Bool :=
  match s.sweep with
  | .idle => false
  | .expiry _ _ waiting => waiting
  | .drop _ _ _ waiting => waiting

/-- No client of classes 1 and 2 waits. -/
def State.freeForClass3 (s : State) : Bool := s.class1.isEmpty && !s.class2Waits

/-- No client of classes 1 to 3 waits. -/
def State.freeForClass4 (s : State) : Bool := s.freeForClass3 && !s.class3Waits

/-- No client of classes 1 to 4 waits. -/
def State.freeForClass5 (s : State) : Bool := s.freeForClass4 && !s.scan.running

/-- The local request `a` is the oldest client of class 1, and the request in progress. -/
def State.serves (a : Access) (s : State) : Bool :=
  decide (s.class1.head? = some .request) && decide (s.link.inProgress.map InProgress.work = some (.access a))

/-- The overrun mark of the request in progress. -/
def Link.mark (l : Link) : Bool :=
  match l.inProgress with
  | none => false
  | some p => p.mark

/-- The access of the waiting local request `a`: from its grant to the end at which its reply is formed (R15, R16, R183). -/
def State.accessRequest (a : Access) (body : State → Answer) (s : State) : State :=
  let t := s.settle
  if t.serves a then
    let r := body { t with class1 := t.class1.tail }
    State.answer r.2.1 (Access.code a) t.link.mark r.2.2 { r.1 with link := { r.1.link with inProgress := none } }
  else s

end Sys2Proof.Machine
end

