-- ==== Sys2Proof/Machine/Users.lean ====
section
/-! DEFINITION. The requests of chapter 2 as accesses of the Quota Table (R25 to R42), with the admission test (R7). Each is served when it is
the oldest client of class 1 (R14). -/

namespace Sys2Proof.Machine

/-! ### Checks (R25) and the admission test (R7) -/

/-- Checks 2 and 5 of R25 for a request that needs a record: user number 0, no record, or a RETIRING one; then the request's own work.
BAD_REQUEST carries no payload (R202). -/
def State.withUser (user : Nat) (refused : UserBlock → ReplyBody) (act : UserRec → State → Answer) (s : State) : Answer :=
  if user = 0 then (s, .badRequest, .empty)
  else
    match s.findActive user with
    | none => (s, .unknownUser, refused (noUser user))
    | some u => act u s

/-- E′ = E + n, exact (R7). -/
def tested (w n : Nat) (u : UserRec) : Nat := estimate w u + n

/-- The outcome of an admission by state and E′ (R7); `restore` for RESTORE-BEGIN. -/
def admission (w n : Nat) (restore : Bool) (u : UserRec) : Status :=
  match u.state with
  | .retiring => .unknownUser
  | .frozen => .refusedFrozen
  | .under => if u.hard < tested w n u then .refusedHard else if u.soft < tested w n u then .okSoft else .ok
  | .grace _ => if u.hard < tested w n u then .refusedHard else if u.soft < tested w n u then .okSoft else .ok
  | .lapsed =>
    if u.hard < tested w n u then .refusedHard
    else if u.soft < tested w n u then if restore then .okSoft else .refusedLapsed
    else .ok

/-- Admitted: OK or OK_SOFT (R7). -/
def Status.admits (st : Status) : Bool := decide (st = .ok ∨ st = .okSoft)

/-! ### The accesses -/

/-- CHARGE (R27). -/
def chargeAccess (user n : Nat) (s : State) : Answer :=
  if n = 0 then (s, .badRequest, .empty)
  else
    s.withUser user (fun a => .charge a none) fun u s =>
      let status := admission s.settings.heldWeight n false u
      let t := if status.admits then s.commit u { u with live := u.live + n } else s
      (t, status, .charge (t.userBlock user) (some (tested s.settings.heldWeight n u)))

/-- CREDIT (R28). -/
def creditAccess (user n : Nat) (s : State) : Answer :=
  if user = 0 ∨ n = 0 then (s, .badRequest, .empty)
  else if Config.maxAU < n then (s, .range, .credit (noUser user) 0)
  else
    s.withUser user (fun a => .credit a 0) fun u s =>
      let t := s.commit u { u with live := u.live - n }
      (t, if n ≤ u.live then .ok else .okClamped, .credit (t.userBlock user) (min n u.live))

/-- A record as USER-LOAD creates it (R30). -/
def newUser (w g user soft hard live : Nat) : UserRec :=
  reevaluate w g
    { user := user, state := .under, soft := min soft hard, hard := hard, live := live, held := 0, reserved := 0, reported := 0
      reportDue := decide (0 < live), remote := [], spill := 0 }

/-- USER-LOAD (R29, R30). Setting report due wakes the Digest Sweep (R84). -/
def userLoadAccess (user soft hard live : Nat) (s : State) : Answer :=
  if user = 0 then (s, .badRequest, .empty)
  else if Config.maxAU < soft ∨ Config.maxAU < hard ∨ Config.maxAU < live then (s, .range, .user (noUser user))
  else
    match s.findUser user with
    | some u => if u.state = .retiring then (s, .busy, .user (noUser user)) else (s, .existsAlready, .user (s.userBlock user))
    | none =>
      if s.settings.userRecords ≤ s.users.length then (s, .tableFull, .user (noUser user))
      else
        let t := { s with
          users := insertUser (newUser s.settings.heldWeight s.settings.grace user soft hard live) s.users
          digest := if 0 < live then s.digest.wake else s.digest }
        (t, if hard < soft then .okClamped else .ok, .user (t.userBlock user))

/-- USER-LIMITS (R31). -/
def userLimitsAccess (user soft hard : Nat) (s : State) : Answer :=
  if user = 0 then (s, .badRequest, .empty)
  else if Config.maxAU < soft ∨ Config.maxAU < hard then (s, .range, .user (noUser user))
  else
    s.withUser user .user fun u s =>
      let t := s.commit u { u with soft := min soft hard, hard := hard }
      (t, if hard < soft then .okClamped else .ok, .user (t.userBlock user))

/-- USER-FREEZE (R32). -/
def userFreezeAccess (user : Nat) (s : State) : Answer :=
  s.withUser user (fun a => .userFreeze a none) fun u s =>
    let t := s.putState u .frozen
    (t, .ok, .userFreeze (t.userBlock user) (some u.state))

/-- USER-THAW (R33). -/
def userThawAccess (user : Nat) (s : State) : Answer :=
  s.withUser user .user fun u s =>
    if u.state = .frozen then
      let t := s.putState u (if estimate s.settings.heldWeight u ≤ u.soft then .under else .lapsed)
      (t, .ok, .user (t.userBlock user))
    else (s, .wrongState, .user (s.userBlock user))

/-- The record becomes RETIRING with its final notice placed, or waiting with report due set (R34, R35, R36). -/
def State.beginRetiring (u : UserRec) (s : State) : State :=
  let t := s.putState { u with reported := 0, reportDue := false } .retiring
  match t.placeNow u.user with
  | some placed => placed
  | none => { t.setDue u.user with finalWaiting := t.finalWaiting ++ [u.user] }

/-- The record is freed within the access; a final notice that cannot be placed is abandoned (R34). -/
def State.retireNow (owed : Bool) (user : Nat) (s : State) : State :=
  if owed then ((s.placeNow user).getD s).freeUser user else s.freeUser user

/-- A final notice is owed: the user was reported, or a USAGE for the user is queued (R34). -/
def State.finalOwed (u : UserRec) (s : State) : Bool := decide (0 < u.reported) || s.out.has (Notice.isUsageOf u.user)

/-- USER-RETIRE (R34). -/
def userRetireAccess (user : Nat) (s : State) : Answer :=
  s.withUser user .user fun u s =>
    if 0 < u.live ∨ 0 < u.held ∨ 0 < u.reserved then (s, .notEmpty, .user (s.userBlock user))
    else if s.finalOwed u && s.anyPresent then
      let t := s.beginRetiring u
      (t, .ok, .user (t.userBlock user))
    else (s.retireNow (s.finalOwed u) user, .ok, .user { user := user, state := none, estimate := some 0 })

/-- The figures of USER-QUERY (R38). -/
def State.report (u : UserRec) (s : State) : UserReport :=
  { record := u, weightedHeld := weightedHeld s.settings.heldWeight u.held, ownCharge := ownCharge s.settings.heldWeight u
    remoteSum := remoteSum u, watched := decide (u.user ∈ s.watch) }

/-- USER-QUERY (R38). -/
def userQueryAccess (user : Nat) (s : State) : Answer :=
  s.withUser user (fun a => .userQuery a none) fun u s => (s, .ok, .userQuery (s.userBlock user) (some (s.report u)))

/-- USER-RESYNC (R39): spill is cleared and report due is set, which wakes the Digest Sweep (R84). -/
def userResyncAccess (user : Nat) (s : State) : Answer :=
  s.withUser user .user fun u s =>
    let t := (s.commit u { u with spill := 0 }).setDue user
    (t, .ok, .user (t.userBlock user))

/-- USER-WATCH (R40). -/
def userWatchAccess (user : Nat) (s : State) : Answer :=
  s.withUser user (fun a => .userWatch a false 0) fun _ s =>
    if user ∈ s.watch then (s, .ok, .userWatch (s.userBlock user) true s.watch.length)
    else if s.watch.length < Config.watchSlots then
      ({ s with watch := s.watch ++ [user] }, .ok, .userWatch (s.userBlock user) false (s.watch.length + 1))
    else (s, .watchFull, .userWatch (s.userBlock user) false s.watch.length)

/-- USER-UNWATCH (R41). -/
def userUnwatchAccess (user : Nat) (s : State) : Answer :=
  s.withUser user (fun a => .userWatch a false 0) fun _ s =>
    let t := { s with watch := s.watch.filter fun w => w != user }
    (t, .ok, .userWatch (s.userBlock user) (decide (user ∈ s.watch)) t.watch.length)

/-! ### The commands -/

/-- CHARGE (R27). -/
def execCharge (user n : Nat) (s : State) : Result := .next (s.accessRequest (.charge user n) (chargeAccess user n))

/-- CREDIT (R28). -/
def execCredit (user n : Nat) (s : State) : Result := .next (s.accessRequest (.credit user n) (creditAccess user n))

/-- USER-LOAD (R29, R30). -/
def execUserLoad (user soft hard live : Nat) (s : State) : Result :=
  .next (s.accessRequest (.userLoad user soft hard live) (userLoadAccess user soft hard live))

/-- USER-LIMITS (R31). -/
def execUserLimits (user soft hard : Nat) (s : State) : Result :=
  .next (s.accessRequest (.userLimits user soft hard) (userLimitsAccess user soft hard))

/-- USER-FREEZE (R32). -/
def execUserFreeze (user : Nat) (s : State) : Result := .next (s.accessRequest (.userFreeze user) (userFreezeAccess user))

/-- USER-THAW (R33). -/
def execUserThaw (user : Nat) (s : State) : Result := .next (s.accessRequest (.userThaw user) (userThawAccess user))

/-- USER-RETIRE (R34, R35). -/
def execUserRetire (user : Nat) (s : State) : Result := .next (s.accessRequest (.userRetire user) (userRetireAccess user))

/-- USER-QUERY (R38). -/
def execUserQuery (user : Nat) (s : State) : Result := .next (s.accessRequest (.userQuery user) (userQueryAccess user))

/-- USER-RESYNC (R39). -/
def execUserResync (user : Nat) (s : State) : Result := .next (s.accessRequest (.userResync user) (userResyncAccess user))

/-- USER-WATCH (R40). -/
def execUserWatch (user : Nat) (s : State) : Result := .next (s.accessRequest (.userWatch user) (userWatchAccess user))

/-- USER-UNWATCH (R41). -/
def execUserUnwatch (user : Nat) (s : State) : Result := .next (s.accessRequest (.userUnwatch user) (userUnwatchAccess user))

end Sys2Proof.Machine
end

