-- ==== Sys2Proof/Machine/Holds.lean ====
section
/-! DEFINITION. HOLD (R119 to R121), SNAP-EXPIRE (R122 to R124) and the expiry sweep (R127, R129). -/

namespace Sys2Proof.Machine

/-! ### HOLD -/

/-- The hold record of a user in an epoch. -/
def isHold (user : Nat) (e : Epoch) (h : Hold) : Bool := h.user == user && h.epoch == e

/-- The hold records after an admitted HOLD: the user's record in the epoch grows, or a new one is appended (R120). -/
def addHold (user : Nat) (e : Epoch) (n : Nat) (l : List Hold) : List Hold :=
  if l.any (isHold user e) then modifyFirst (isHold user e) (fun h => { h with units := h.units + n }) l
  else l ++ [{ user := user, epoch := e, units := n }]

/-- The units of the hold record of a user in an epoch. -/
def holdUnits (user : Nat) (e : Epoch) (l : List Hold) : Nat :=
  match l.find? (isHold user e) with
  | none => 0
  | some h => h.units

/-- An admitted HOLD's changes (R120). -/
def State.applyHold (u : UserRec) (e : Epoch) (n : Nat) (s : State) : State :=
  let fresh := !s.holds.any (isHold u.user e)
  let t := { s with holds := addHold u.user e n s.holds }.modifyEpoch e fun c =>
    { c with heldTotal := c.heldTotal + n, holdCount := c.holdCount + fresh.toNat }
  t.commit u { u with live := u.live - n, held := u.held + n }

/-- HOLD (R119, R120). -/
def holdAccess (user : Nat) (e : Epoch) (n : Nat) (s : State) : Answer :=
  if user = 0 ∨ n = 0 then (s, .badRequest, .empty)
  else if Config.maxAU < n then (s, .range, .hold (noUser user) 0 false 0)
  else
    s.withUser user (fun a => .hold a 0 false 0) fun u s =>
      let refuse := fun st : Status => ((s, st, .hold (s.userBlock user) 0 false 0) : Answer)
      match s.findEpoch e with
      | none => refuse .noSuchEpoch
      | some c =>
        if c.state = .asked then refuse .wrongState
        else if c.state = .expiring then refuse .expiring
        else if u.live < n then refuse .range
        else if Config.maxAU < u.held + n ∨ Config.maxAU < c.heldTotal + n then refuse .range
        else if s.holds.any (isHold user e) = false ∧ s.freeHolds = 0 then refuse .poolFull
        else
          let t := s.applyHold u e n
          (t, .ok, .hold (t.userBlock user) (holdUnits user e t.holds) (!s.holds.any (isHold user e)) t.freeHolds)

/-! ### SNAP-EXPIRE -/

/-- A duplication entry names an epoch (R123). -/
def DupEntry.names (e : Epoch) (q : DupEntry) : Bool := decide (q.work.epoch = some e)

/-- The purge of an epoch's duplication work (R123). -/
def State.purge (e : Epoch) (s : State) : State :=
  State.modifyEpoch e (fun c => { c with queuedCount := 0, dupState := .discarded })
    { s with dup := { s.dup with queue := s.dup.queue.filter fun q => !q.names e } }

/-- Completion of an expiry sweep (R129). -/
def State.completeExpiry (e : Epoch) (swept : Nat) (s : State) : State :=
  { State.raise .expiryDone (.epoch e) (some (.number swept)) { s with cat := s.cat.eraseP fun c => c.epoch == e } with sweep := .idle }

/-- After the start of an expiry sweep or the end of one of its steps: the next step waits, or the sweep completes (R124, R126, R129). -/
def State.continueExpiry (e : Epoch) (swept : Nat) (s : State) : State :=
  if (s.holdList e).isEmpty then s.completeExpiry e swept else { s with sweep := .expiry e swept true }

/-- Checks 2 to 8 of SNAP-EXPIRE (R122). -/
def State.expireStatus (c : CatEntry) (discard : Bool) (s : State) : Status :=
  if c.state = .expiring then .expiring
  else if c.state = .asked ∨ c.state = .ready then .wrongState
  else if 0 < c.pins then .pinned
  else if 0 < c.inFlight then .busy
  else if discard = false ∧ (c.dupState = .notQueued ∨ c.dupState = .queued ∨ c.dupState = .ending) then .notOffsite
  else if s.sweep ≠ .idle then .sweepBusy
  else .ok

/-- The duplication entries a SNAP-EXPIRE removes. -/
def State.purgeCount (e : Epoch) (discard : Bool) (s : State) : Nat :=
  if discard then (s.dup.queue.filter fun q => q.names e).length else 0

/-- An admitted SNAP-EXPIRE (R123, R124). The missing set of an entry that was PARTIAL stays, as R124 says, although R96 has it PARTIAL only
(DEDUCED, log 43). -/
def State.beginExpiry (e : Epoch) (discard : Bool) (s : State) : State :=
  State.continueExpiry e 0 ((if discard then s.purge e else s).modifyEpoch e fun c => { c with state := .expiring })

/-- SNAP-EXPIRE (R122 to R124). -/
def snapExpire (e : Epoch) (discard : Bool) (s : State) : Answer :=
  match s.findEpoch e with
  | none => (s, .noSuchEpoch, .snapExpire none 0 false 0)
  | some c =>
    if s.expireStatus c discard = .ok then
      (s.beginExpiry e discard, .ok, .snapExpire (some c) c.holdCount (s.holdList e).isEmpty (s.purgeCount e discard))
    else (s, s.expireStatus c discard, .snapExpire (some c) 0 false 0)

/-! ### The expiry sweep -/

/-- The changes of an expiry sweep step to the records of the user, the catalogue entry and the Hold Pool (R127). -/
def State.releaseHold (h : Hold) (s : State) : State :=
  let t := { s with holds := s.holds.eraseP fun g => isHold h.user h.epoch g }.modifyEpoch h.epoch fun c =>
    { c with heldTotal := c.heldTotal - h.units, holdCount := c.holdCount - 1 }
  match t.findUser h.user with
  | none => t
  | some u => t.commit u { u with held := u.held - h.units }

/-- One step of an expiry sweep, and what follows its end (R127, R129). -/
def State.expiryStep (e : Epoch) (swept : Nat) (s : State) : State :=
  match s.holdList e with
  | [] => s.completeExpiry e swept
  | h :: _ => (s.releaseHold h).continueExpiry e (swept + 1)

/-- The waiting expiry sweep step is served in class 3. -/
def State.serveExpiryStep (s : State) : State :=
  let t := s.settle
  match t.sweep with
  | .expiry e swept true => if t.freeForClass3 then t.expiryStep e swept else s
  | .expiry _ _ false => s
  | .idle => s
  | .drop _ _ _ _ => s

/-! ### The commands -/

/-- HOLD (R119, R120). -/
def execHold (user : Nat) (epoch : Epoch) (n : Nat) (s : State) : Result :=
  .next (s.accessRequest (.hold user epoch n) (holdAccess user epoch n))

/-- SNAP-EXPIRE (R122 to R124). -/
def execSnapExpire (epoch : Epoch) (discard : Bool) (s : State) : Result :=
  .next (s.requestAtOnce (.snapExpire epoch discard) (snapExpire epoch discard))

/-- An expiry sweep step (R127). -/
def execExpirySweepStep (s : State) : Result := .next s.serveExpiryStep

end Sys2Proof.Machine
end

