-- ==== Sys2Proof/Machine/Restores.lean ====
section
/-! DEFINITION. Restores (chapter 7): beginning, progress and end of a job (R134 to R140), the idle timeout (R141 to R143), and the releases of
RESTART (R146). -/

namespace Sys2Proof.Machine

/-! ### Beginning -/

/-- A slot is FREE (R133). -/
def State.slotFree (s : State) (i : Fin 8) : Bool := (s.jobSlot i).job.isNone

/-- The lowest-numbered FREE slot (R134). -/
def State.freeSlot (s : State) : Option (Fin 8) := lowestSlot s.slotFree

/-- An admitted RESTORE-BEGIN's changes (R136). -/
def State.beginJob (i : Fin 8) (u : UserRec) (e : Epoch) (n : Nat) (s : State) : State :=
  let t := (s.setJob i
    { gen := (s.jobSlot i).gen + 1
      job := some { user := u.user, epoch := e, remaining := n, moved := 0, idle := 0, releaseWaiting := false } }).modifyEpoch e
    fun c => { c with pins := c.pins + 1 }
  t.commit u { u with reserved := u.reserved + n }

/-- RESTORE-BEGIN (R135, R136). -/
def restoreBeginAccess (user : Nat) (e : Epoch) (n : Nat) (s : State) : Answer :=
  if user = 0 ∨ n = 0 then (s, .badRequest, .empty)
  else if Config.maxRestore < n then (s, .range, .restoreBegin (noUser user) none none)
  else
    s.withUser user (fun a => .restoreBegin a none none) fun u s =>
      let refuse := fun st : Status => ((s, st, .restoreBegin (s.userBlock user) none none) : Answer)
      match s.findEpoch e with
      | none => refuse .noSuchEpoch
      | some c =>
        if c.state = .asked ∨ c.state = .ready then refuse .wrongState
        else if c.state = .expiring then refuse .expiring
        else
          match s.freeSlot with
          | none => refuse .jobsFull
          | some i =>
            let status := admission s.settings.heldWeight n true u
            let t := if status.admits then s.beginJob i u e n else s
            (t, status,
              .restoreBegin (t.userBlock user) (some (tested s.settings.heldWeight n u))
                (if status.admits then some (handleOf i ((s.jobSlot i).gen + 1)) else none))

/-! ### Progress and end -/

/-- The ACTIVE job that a handle names (R134). -/
def State.jobOf (handle : Nat) (s : State) : Option Job :=
  if (s.jobSlot (handleSlot handle)).gen = handleGen handle then (s.jobSlot (handleSlot handle)).job else none

/-- The block A of a job's user: absent state and estimate when the record has left or is RETIRING (R139). R26 gives the user number as sent,
and the requests that name a job send none: the block carries the user number of the job (DESIGN CHOICE, log 44). -/
def State.jobUserBlock (user : Nat) (s : State) : UserBlock :=
  match s.findActive user with
  | none => noUser user
  | some _ => s.userBlock user

/-- A change to the job's user record, re-evaluated; left out when the record has left or is RETIRING (R139). -/
def State.changeJobUser (user : Nat) (f : UserRec → UserRec) (s : State) : State :=
  match s.findActive user with
  | none => s
  | some u => s.commit u (f u)

/-- `moved` units pass from the reservation to live space, and the job is idle no more (R137, R138). -/
def State.progressJob (i : Fin 8) (j : Job) (moved : Nat) (s : State) : State :=
  State.changeJobUser j.user (fun u => { u with reserved := u.reserved - moved, live := u.live + moved })
    (s.setJob i
      { gen := (s.jobSlot i).gen
        job := some { j with remaining := j.remaining - moved, moved := j.moved + moved, idle := 0 } })

/-- RESTORE-PROGRESS (R137, R138). -/
def restoreProgressAccess (handle k : Nat) (s : State) : Answer :=
  if k = 0 then (s, .badRequest, .empty)
  else if Config.maxRestore < k then (s, .range, .restoreProgress (noUser 0) 0 0 0)
  else if 63 < handle then (s, .badRequest, .empty)
  else
    match s.jobOf handle with
    | none => (s, .noSuchHandle, .restoreProgress (noUser 0) 0 0 0)
    | some j =>
      let moved := min k j.remaining
      let t := s.progressJob (handleSlot handle) j moved
      (t, if k ≤ j.remaining then .ok else .replyPartial,
        .restoreProgress (t.jobUserBlock j.user) moved (j.remaining - moved) (j.moved + moved))

/-- The end of a job (R140, R143, R146): the reservation is released, the pin lowered, and the slot freed with its generation kept. -/
def State.endJob (i : Fin 8) (j : Job) (s : State) : State :=
  State.changeJobUser j.user (fun u => { u with reserved := u.reserved - j.remaining })
    ((s.setJob i { gen := (s.jobSlot i).gen, job := none }).modifyEpoch j.epoch fun c => { c with pins := c.pins - 1 })

/-- RESTORE-END (R140). -/
def restoreEndAccess (handle : Nat) (s : State) : Answer :=
  if 63 < handle then (s, .badRequest, .empty)
  else
    match s.jobOf handle with
    | none => (s, .noSuchHandle, .restoreEnd (noUser 0) 0 0)
    | some j =>
      let t := s.endJob (handleSlot handle) j
      (t, .ok, .restoreEnd (t.jobUserBlock j.user) j.moved j.remaining)

/-! ### Releases without a request -/

/-- The job that a release names: its slot, ACTIVE with the same generation (R142). -/
def State.releaseJob (i gen : Fin 8) (s : State) : Option Job :=
  if (s.jobSlot i).gen = gen then (s.jobSlot i).job else none

/-- An idle-timeout release (R142, R143). -/
def State.idleRelease (i gen : Fin 8) (s : State) : State :=
  match s.releaseJob i gen with
  | none => s
  | some j =>
    if s.settings.idleLimit ≤ j.idle then
      (s.endJob i j).raise .restoreTimeout (.handle (handleOf i gen)) (some (.number j.moved))
    else s.setJob i { gen := gen, job := some { j with releaseWaiting := false } }

/-- The oldest client of class 1, an idle-timeout release, is served. -/
def State.serveIdleRelease (s : State) : State :=
  let t := s.settle
  match t.class1 with
  | .idleRelease i gen :: rest => State.idleRelease i gen { t with class1 := rest }
  | .request :: _ => s
  | .restartRelease _ _ :: _ => s
  | [] => s

/-- A release of RESTART (R146). -/
def State.restartRelease (i gen : Fin 8) (s : State) : State :=
  match s.releaseJob i gen with
  | none => s
  | some j => s.endJob i j

/-- RESTART counts the jobs that its own releases end (R190). -/
def Link.countEnded (n : Nat) (l : Link) : Link :=
  match l.inProgress with
  | none => l
  | some p =>
    match p.work with
    | .restart jobs grants => { l with inProgress := some { p with work := .restart (jobs + n) grants } }
    | .access _ => l

/-- A client of class 1 is a release of RESTART. -/
def Client.ofRestart : Client → Bool
  | .restartRelease _ _ => true
  | .idleRelease _ _ => false
  | .request => false

/-- RESTART's reply is formed when none of its releases is left (R190). -/
def State.finishRestart (s : State) : State :=
  if s.class1.any Client.ofRestart then s
  else
    match s.link.inProgress with
    | none => s
    | some p =>
      match p.work with
      | .restart jobs grants =>
        State.answer .ok p.code p.mark (.restart jobs grants) { s with link := { s.link with inProgress := none } }
      | .access _ => s

/-- The oldest client of class 1, a release of RESTART, is served. -/
def State.serveRestartRelease (s : State) : State :=
  let t := s.settle
  match t.class1 with
  | .restartRelease i gen :: rest =>
    State.finishRestart
      { State.restartRelease i gen { t with class1 := rest } with
        link := t.link.countEnded (t.releaseJob i gen).isSome.toNat }
  | .request :: _ => s
  | .idleRelease _ _ :: _ => s
  | [] => s

/-! ### The idle limit's row (R141) -/

/-- The lowest-numbered slot whose release is still to be offered. -/
def State.firstIdleDue (s : State) : Option (Fin 8) := lowestSlot s.idleDue

/-! ### The commands -/

/-- RESTORE-BEGIN (R135, R136). -/
def execRestoreBegin (user : Nat) (epoch : Epoch) (n : Nat) (s : State) : Result :=
  .next (s.accessRequest (.restoreBegin user epoch n) (restoreBeginAccess user epoch n))

/-- RESTORE-PROGRESS (R137, R138). -/
def execRestoreProgress (handle k : Nat) (s : State) : Result :=
  .next (s.accessRequest (.restoreProgress handle k) (restoreProgressAccess handle k))

/-- RESTORE-END (R140). -/
def execRestoreEnd (handle : Nat) (s : State) : Result := .next (s.accessRequest (.restoreEnd handle) (restoreEndAccess handle))

/-- An idle-timeout release (R142). -/
def execIdleTimeoutRelease (s : State) : Result := .next s.serveIdleRelease

/-- A release of RESTART (R146). -/
def execRestartRelease (s : State) : Result := .next s.serveRestartRelease

/-- A job reaches the restore idle limit (R141). Releases of one boundary begin to wait in ascending slot order (R14), so only the lowest slot
that is due has its release offered (log 7). -/
def execIdleLimitReached (slot : Fin 8) (s : State) : Result :=
  .next (if s.firstIdleDue = some slot then s.offerRelease slot else s)

end Sys2Proof.Machine
end

