-- ==== Sys2Proof/Machine/Snapshots.lean ====
section
/-! DEFINITION. The Snapshot Catalogue: SNAP-TAKE, SNAP-READY, SNAP-QUERY, the receipts of epoch notices, and the timers (R93 to R114). -/

namespace Sys2Proof.Machine

/-! ### The receive queue's head -/

/-- The notice at the head of the receive queue, when it is of the kind that `pick` reads, is handled and leaves the queue (R62). -/
def State.receive {α : Type} (pick : Notice → Option α) (act : Station → α → State → State) (s : State) : State :=
  let t := s.settle
  match t.headNotice with
  | none => s
  | some r =>
    match pick r.notice with
    | none => s
    | some a => act r.sender a { t with recv := t.recv.tail }

/-- The epoch of an EPOCH-PROPOSE. -/
def Notice.proposal : Notice → Option Epoch
  | .epochPropose e => some e
  | .epochReady _ => none
  | .epochLatest _ => none
  | .share _ => none
  | .usage _ _ => none
  | .presence _ => none

/-- The epoch of an EPOCH-READY. -/
def Notice.readiness : Notice → Option Epoch
  | .epochPropose _ => none
  | .epochReady e => some e
  | .epochLatest _ => none
  | .share _ => none
  | .usage _ _ => none
  | .presence _ => none

/-- The epoch of an EPOCH-LATEST. -/
def Notice.announcement : Notice → Option Epoch
  | .epochPropose _ => none
  | .epochReady _ => none
  | .epochLatest e => some e
  | .share _ => none
  | .usage _ _ => none
  | .presence _ => none

/-! ### Entries and the span -/

/-- An entry as it is created (R96, R99, R101). -/
def newEntry (e : Epoch) (proposer : Station) (askLimit : Nat) (early : StationSet) : CatEntry :=
  { epoch := e, state := .asked, proposer := proposer, early := some early, required := none, ready := none, missing := none
    timer := some askLimit, heldTotal := 0, holdCount := 0, pins := 0, dupState := .notQueued, failedExtent := false, queuedCount := 0
    inFlight := 0 }

/-- An advance of the latest known epoch to `l` keeps the span; an ASKED entry is not counted, since every such event removes it (R94). -/
def State.spanHolds (l : Epoch) (s : State) : Bool :=
  s.cat.all fun c => decide (c.state = .asked) || decide ((l - c.epoch).toNat ≤ Config.span)

/-- An advance that would break the span is not made (R94). -/
def State.refuseAdvance (l : Epoch) (s : State) : State := s.raise .catalogueFull (.epoch l) (some (.catalogue true))

/-! ### SNAP-TAKE (R99) -/

/-- An admitted SNAP-TAKE's changes (R99). -/
def State.propose (e : Epoch) (s : State) : State :=
  State.offerEpoch (.epochPropose e)
    { s with cat := s.cat ++ [newEntry e s.station s.settings.askLimit 0#16], latest := some e }

/-- SNAP-TAKE (R99). -/
def snapTake (s : State) : Answer :=
  if s.cat.any (fun c => decide (c.state = .asked ∨ c.state = .ready)) then (s, .busy, .snapTake none)
  else if Config.catalogueSlots ≤ s.cat.length then (s, .catalogueFull, .snapTake none)
  else if s.spanHolds (nextEpoch s.latest) = false then (s, .catalogueFull, .snapTake none)
  else (s.propose (nextEpoch s.latest), .ok, .snapTake (some (nextEpoch s.latest)))

/-! ### SNAP-READY (R105) -/

/-- An ASKED entry as SNAP-READY leaves it (R105). -/
def readied (present : StationSet) (own : Station) (closeLimit : Nat) (c : CatEntry) : CatEntry :=
  { c with
    state := .ready, required := some present, ready := some (addTo own (setOf c.early)), early := none, timer := some closeLimit }

/-- An admitted SNAP-READY's changes (R105). -/
def State.makeReady (e : Epoch) (s : State) : State :=
  State.closeTest e
    (State.offerEpoch (.epochReady e) (s.modifyEpoch e (readied s.presentSet s.station s.settings.closeLimit)))

/-- SNAP-READY (R105). -/
def snapReady (e : Epoch) (s : State) : Answer :=
  match s.findEpoch e with
  | none => (s, .noSuchEpoch, .snapReady 0#16 0#16 false)
  | some c =>
    if c.state = .asked then
      let r := readied s.presentSet s.station s.settings.closeLimit c
      (s.makeReady e, .ok, .snapReady (setOf r.required) (setOf r.ready) (closes r))
    else (s, .wrongState, .snapReady 0#16 0#16 false)

/-! ### SNAP-QUERY (R114) -/

/-- The entry that follows the entry for an epoch in catalogue order. -/
def entryAfter (e : Epoch) : List CatEntry → Option CatEntry
  | [] => none
  | c :: cs => if c.epoch == e then cs.head? else entryAfter e cs

/-- The entry a mode chooses (R114). -/
def State.chosenEntry (e : Epoch) (mode : SnapMode) (s : State) : Option CatEntry :=
  match mode with
  | .exact => s.findEpoch e
  | .first => s.cat.head?
  | .next => entryAfter e s.cat

/-- SNAP-QUERY (R114). -/
def snapQuery (e : Epoch) (mode : SnapMode) (s : State) : Answer :=
  (s, if (s.chosenEntry e mode).isSome then .ok else .noSuchEpoch, .snapQuery s.latest s.cat.length (s.chosenEntry e mode))

/-! ### Received epoch notices -/

/-- The entry of a newer proposal, or CATALOGUE_FULL (step 3 of R101). -/
def State.enterProposal (st : Station) (e : Epoch) (early : StationSet) (s : State) : State :=
  if s.cat.length < Config.catalogueSlots then
    State.raise .epochAsked (.epoch e) (some (.proposer st)) { s with cat := s.cat ++ [newEntry e st s.settings.askLimit early] }
  else s.raise .catalogueFull (.epoch e) (some (.catalogue false))

/-- A newer proposal (R101). -/
def State.newProposal (st : Station) (e : Epoch) (early : StationSet) (s : State) : State :=
  if s.spanHolds e then { State.enterProposal st e early (s.abandonAsked true) with latest := some e }
  else s.refuseAdvance e

/-- The answer to a stale proposal (R103). Where two older EPOCH-LATEST notices are queued, the rule names one: the first in queue order is
withdrawn and the other stays (DESIGN CHOICE, log 36). -/
def State.answerStale (latest : Epoch) (s : State) : State :=
  if s.out.has (fun n => decide (n = .epochLatest latest)) then s
  else
    State.offerEpoch (.epochLatest latest)
      (s.withdraw fun n =>
        match n.announcement with
        | none => false
        | some e => newer latest e)

/-- An EPOCH-PROPOSE (R101, R102, R103). -/
def receiveProposal (st : Station) (e : Epoch) (s : State) : State :=
  if newerThanLatest e s.latest then s.newProposal st e 0#16
  else
    match s.latest with
    | none => s
    | some l =>
      if e = l ∧ (s.findEpoch e).isSome then s.withdraw fun n => decide (n = .epochPropose e)
      else s.answerStale l

/-- An entry as an EPOCH-READY from `st` leaves it (R106). -/
def heardReady (st : Station) (c : CatEntry) : CatEntry :=
  match c.state with
  | .asked => { c with early := c.early.map (addTo st) }
  | .ready => { c with ready := c.ready.map (addTo st) }
  | .closed => { c with ready := c.ready.map (addTo st) }
  | .closedPartial => { c with ready := c.ready.map (addTo st) }
  | .expiring => { c with ready := c.ready.map (addTo st) }

/-- An EPOCH-READY (R106, R107). The close test changes nothing unless the entry is READY (R108). -/
def receiveReady (st : Station) (e : Epoch) (s : State) : State :=
  match s.findEpoch e with
  | some _ => (s.modifyEpoch e (heardReady st)).closeTest e
  | none => if newerThanLatest e s.latest then s.newProposal st e (oneStation st) else s

/-- An announcement that its sender knows epoch `l` (R104). -/
def State.hearLatest (l : Epoch) (s : State) : State :=
  if newerThanLatest l s.latest then
    if s.spanHolds l then { (s.abandonAsked true).raise .epochMissed (.epoch l) none with latest := some l }
    else s.refuseAdvance l
  else s

/-! ### The commands -/

/-- SNAP-TAKE (R99). -/
def execSnapTake (s : State) : Result := .next (s.requestAtOnce .snapTake snapTake)

/-- SNAP-READY (R105). -/
def execSnapReady (epoch : Epoch) (s : State) : Result := .next (s.requestAtOnce (.snapReady epoch) (snapReady epoch))

/-- SNAP-QUERY (R114). -/
def execSnapQuery (epoch : Epoch) (mode : SnapMode) (s : State) : Result :=
  .next (s.requestAtOnce (.snapQuery epoch mode) (snapQuery epoch mode))

/-- An EPOCH-PROPOSE at the head of the receive queue (R101 to R103). -/
def execEpochProposeReceipt (s : State) : Result := .next (s.receive Notice.proposal receiveProposal)

/-- An EPOCH-READY at the head of the receive queue (R106, R107). -/
def execEpochReadyReceipt (s : State) : Result := .next (s.receive Notice.readiness receiveReady)

/-- An EPOCH-LATEST at the head of the receive queue (R104). -/
def execEpochLatestReceipt (s : State) : Result := .next (s.receive Notice.announcement fun _ l => State.hearLatest l)

/-- The ask timer reaches 0 (R110). -/
def execAskTimerExpiry (s : State) : Result := .next s.expireAsk

/-- The close timer of an epoch reaches 0 (R111). -/
def execCloseTimerExpiry (epoch : Epoch) (s : State) : Result := .next (s.expireClose epoch)

end Sys2Proof.Machine
end

