-- ==== Sys2Proof/Machine/Peers.lean ====
section
/-! DEFINITION. The Peer View and the usage exchange (chapter 4): hearing, the receipts of USAGE, SHARE and PRESENCE, the Digest Sweep, the drop
sweep; and the grace scan (R18, R19). -/

namespace Sys2Proof.Machine

/-! ### The drop sweep (R88, R89) -/

/-- A record without its remote entry for a station (R89). -/
def withoutStation (st : Station) (u : UserRec) : UserRec := { u with remote := u.remote.filter fun r => r.station != st }

/-- The record has a remote entry for a station. -/
def hasStation (st : Station) (u : UserRec) : Bool := u.remote.any fun r => r.station == st

/-- A drop sweep step's change to a record; re-evaluation follows a removal (R89). -/
def State.removeStation (st : Station) (u : UserRec) (s : State) : State :=
  if hasStation st u then s.commit u (withoutStation st u) else s

/-- An entry as a completed drop sweep leaves it (R89). -/
def droppedEntry (p : PeerEntry) : PeerEntry := { p with state := .absent, latest := none, backlog := none }

/-- Completion of a drop sweep (R89). -/
def State.completeDrop (st : Station) (removed : Nat) (s : State) : State :=
  { State.raise .dropDone (.station st) (some (.number removed)) (s.setPeer st (droppedEntry (s.peer st))) with sweep := .idle }

/-- At the start of a drop sweep and the end of each step: the next step waits, or no record lies above the position (R89, log 20). -/
def State.continueDrop (st : Station) (position : Option Nat) (removed : Nat) (s : State) : State :=
  match s.nextUser position with
  | none => s.completeDrop st removed
  | some _ => { s with sweep := .drop st position removed true }

/-- One step of a drop sweep and what follows its end (R89). A step whose record was freed while it waited completes the sweep (log 21). -/
def State.dropStep (st : Station) (position : Option Nat) (removed : Nat) (s : State) : State :=
  match s.nextUser position with
  | none => s.completeDrop st removed
  | some u => (s.removeStation st u).continueDrop st (some u.user) (removed + (hasStation st u).toNat)

/-- The waiting drop sweep step is served in class 3. -/
def State.serveDropStep (s : State) : State :=
  let t := s.settle
  match t.sweep with
  | .drop st position removed true => if t.freeForClass3 then t.dropStep st position removed else s
  | .drop _ _ _ false => s
  | .idle => s
  | .expiry _ _ _ => s

/-- PEER-DROP (R88). -/
def peerDrop (station : Nat) (s : State) : Answer :=
  if h : station < 16 then
    let st : Station := ⟨station, h⟩
    if st = s.station then (s, .badRequest, .empty)
    else if (s.peer st).state ≠ .gone then (s, .wrongState, .peerDrop)
    else if s.sweep ≠ .idle then (s, .sweepBusy, .peerDrop)
    else (s.continueDrop st none 0, .ok, .peerDrop)
  else (s, .badRequest, .empty)

/-! ### Hearing (R69, R86, R90) -/

/-- A re-report round begins (R86). -/
def State.beginRound (s : State) : State := { s with digest := { s.digest with round := s.users.length, quiet := 0 } }

/-- A drop sweep for a station that is heard is cut short. A step already being served (`stepServed`) completes and is the last (R90, log 10).
R90 puts DROP_CUT_SHORT after PEER_RETURNED alone: that the WATCH cause of the last step stands between the two is the model's choice
(DESIGN CHOICE, log 42). -/
def State.cutDrop (st : Station) (stepServed : Bool) (s : State) : State :=
  match s.sweep with
  | .idle => s
  | .expiry _ _ _ => s
  | .drop subject position removed _ =>
    if subject = st then
      match (if stepServed then s.nextUser position else none) with
      | none => { s.raise .dropCutShort (.station st) (some (.number removed)) with sweep := .idle }
      | some u =>
        { (s.removeStation st u).raise .dropCutShort (.station st) (some (.number (removed + (hasStation st u).toNat))) with
          sweep := .idle }
    else s

/-- A station is heard (R69). Its own number is never heard (R53, R68). -/
def State.hear (st : Station) (stepServed : Bool) (s : State) : State :=
  if st = s.station then s
  else
    let t := s.setPeer st { s.peer st with state := .present, framesSince := 0 }
    match (s.peer st).state with
    | .present => t
    | .absent => (t.raise .peerJoined (.station st) none).beginRound
    | .gone => ((t.raise .peerReturned (.station st) none).cutDrop st stepServed).beginRound

/-! ### Receipts (R70, R71, R76 to R79) -/

/-- The smaller of two remote entries; of equal ones the one with the higher station number (R78). -/
def smallerEntry (a b : RemoteEntry) : RemoteEntry :=
  if a.units < b.units then a else if b.units < a.units then b else if a.station < b.station then b else a

/-- The smallest entry of a full remote list (R78). -/
def smallestEntry : List RemoteEntry → Option RemoteEntry
  | [] => none
  | r :: rs =>
    match smallestEntry rs with
    | none => some r
    | some m => some (smallerEntry r m)

/-- A report that meets a full remote list without its station (R78). -/
def meetFullList (st : Station) (x : Nat) (u : UserRec) : UserRec :=
  match smallestEntry u.remote with
  | none => u
  | some m =>
    if m.units < x then
      { u with
        remote := modifyFirst (fun r => r.station == m.station) (fun _ => { station := st, units := x }) u.remote
        spill := max u.spill m.units }
    else { u with spill := max u.spill x }

/-- The remote list and spill after a report of `x` from a station (R77, R78). -/
def receiveReport (st : Station) (x : Nat) (u : UserRec) : UserRec :=
  if hasStation st u then
    if x = 0 then withoutStation st u
    else { u with remote := modifyFirst (fun r => r.station == st) (fun r => { r with units := x }) u.remote }
  else if x = 0 then u
  else if u.remote.length < Config.remoteSlots then { u with remote := u.remote ++ [{ station := st, units := x }] }
  else meetFullList st x u

/-- The receipt of a USAGE notice into one record (R76, R79). -/
def receiveUsage (st : Station) (user x : Nat) (s : State) : State :=
  match s.findActive user with
  | none => s
  | some u => s.commit u (receiveReport st x u)

/-- The user and units of a USAGE. -/
def Notice.report : Notice → Option (Nat × Nat)
  | .usage u x => some (u, x)
  | .epochPropose _ => none
  | .epochReady _ => none
  | .epochLatest _ => none
  | .share _ => none
  | .presence _ => none

/-- The backlog of a SHARE. -/
def Notice.backlog : Notice → Option Nat
  | .share b => some b
  | .usage _ _ => none
  | .epochPropose _ => none
  | .epochReady _ => none
  | .epochLatest _ => none
  | .presence _ => none

/-- The latest epoch a PRESENCE carries. -/
def Notice.beacon : Notice → Option (Option Epoch)
  | .presence l => some l
  | .share _ => none
  | .usage _ _ => none
  | .epochPropose _ => none
  | .epochReady _ => none
  | .epochLatest _ => none

/-- A USAGE at the head of the receive queue is served in class 2 (R14, R76). -/
def State.serveUsage (s : State) : State :=
  if s.settle.class1.isEmpty then s.receive Notice.report fun st r => receiveUsage st r.1 r.2 else s

/-- A SHARE (R71). -/
def receiveShare (st : Station) (b : Nat) (s : State) : State := s.setPeer st { s.peer st with backlog := some b, shareAge := 0 }

/-- A PRESENCE: first the Peer View (R70), then the Snapshot Catalogue (R104). -/
def receivePresence (st : Station) (latest : Option Epoch) (s : State) : State :=
  let t := s.setPeer st { s.peer st with latest := latest }
  match latest with
  | none => t
  | some l => t.hearLatest l

/-! ### The Digest Sweep (R81, R82, R84, R86, R87) -/

/-- The conditions under which a visit is offered (R81). -/
def State.digestOffers (s : State) : Bool :=
  !s.digest.held && !s.users.isEmpty && (decide (0 < s.digest.round) || decide (s.digest.quiet < s.users.length)) &&
  decide (s.digest.batch < s.settings.digestBatch) && decide (s.settings.digestGap ≤ s.digest.gapTimer) && usageRoom s.out.queue

/-- The record a visit takes: the next above the cursor, wrapping to the lowest (R80, R82). -/
def State.digestRecord (s : State) : Option UserRec :=
  match s.nextUser s.digest.cursor with
  | some u => some u
  | none => s.users.head?

/-- The record's report is due at the visit, or is marked so by the round (R82, R86); a RETIRING record is passed. -/
def State.dueAtVisit (u : UserRec) (s : State) : Bool :=
  decide (u.state ≠ .retiring) &&
  (u.reportDue || (decide (0 < s.digest.round) && decide (0 < ownCharge s.settings.heldWeight u)))

/-- A Digest Sweep visit to a record (R82, R86). -/
def State.visitDigest (u : UserRec) (s : State) : State :=
  let q := ownCharge s.settings.heldWeight u
  if s.dueAtVisit u then
    let t := s.offerUsage u.user q
    { t with
      users := putUser { u with reported := q, reportDue := false } t.users
      digest :=
        { t.digest with cursor := some u.user, batch := t.digest.batch + 1, quiet := 0, round := t.digest.round - 1 } }
  else
    { s with digest := { s.digest with cursor := some u.user, quiet := s.digest.quiet + 1, round := s.digest.round - 1 } }

/-- The waiting Digest Sweep visit is served in class 5. -/
def State.serveDigestVisit (s : State) : State :=
  let t := s.settle
  if t.freeForClass5 && t.digestOffers then
    match t.digestRecord with
    | none => s
    | some u => t.visitDigest u
  else s

/-- DIGEST-HOLD (R87). -/
def digestHold (s : State) : Answer := ({ s with digest := { s.digest with held := true } }, .ok, .digest s.digest.held)

/-- DIGEST-RESUME (R87): a resume while not held changes nothing. -/
def digestResume (s : State) : Answer :=
  (if s.digest.held then { s with digest := { s.digest.wake with held := false } } else s, .ok, .digest s.digest.held)

/-- The gap timer reaches the configured gap and stays there (R83). -/
def State.reachGap (s : State) : State :=
  if s.link.running && decide (s.digest.gapTimer < s.settings.digestGap) then
    { s with digest := { s.digest with gapTimer := s.settings.digestGap } }
  else s

/-! ### The grace scan (R18, R19) -/

/-- A scan with no record left above its cursor ends: it becomes idle, or the next owed scan starts from before the lowest number. Over an
empty table every owed scan starts so and ends at once, until none is owed (R18). -/
def State.endScan (s : State) : State :=
  if s.scan.owed = 0 then { s with scan := { s.scan with running := false } }
  else if s.users.isEmpty then { s with scan := { running := false, cursor := none, owed := 0 } }
  else { s with scan := { running := true, cursor := none, owed := s.scan.owed - 1 } }

/-- At the moment the next visit would be offered (R18). -/
def State.continueScan (s : State) : State :=
  match s.nextUser s.scan.cursor with
  | none => s.endScan
  | some _ => s

/-- A visit's change to the record, GRACE_EXPIRED before WATCH (R19, R15). -/
def State.visitGrace (u : UserRec) (s : State) : State :=
  match u.state with
  | .grace 0 => (s.raise .graceExpired (.user u.user) none).putState u .lapsed
  | .grace (n + 1) => { s with users := putUser { u with state := .grace n } s.users }
  | .under => s
  | .lapsed => s
  | .frozen => s
  | .retiring => s

/-- A grace-scan visit and what follows its end (R19). A visit whose record was freed while it waited ends the scan (log 21). -/
def State.scanVisit (s : State) : State :=
  match s.nextUser s.scan.cursor with
  | none => s.endScan
  | some u =>
    let t := s.visitGrace u
    { t with scan := { t.scan with cursor := some u.user } }.continueScan

/-- The waiting grace-scan visit is served in class 4. -/
def State.serveScanVisit (s : State) : State :=
  let t := s.settle
  if t.scan.running && t.freeForClass4 then t.scanVisit else s

/-! ### PEER-QUERY (R91) -/

/-- Frames since heard after one more boundary (R72). -/
def agedFrames (p : PeerEntry) : Nat := min 255 (p.framesSince + 1)

/-- The backlog an entry brings into the peer backlog total at a boundary, after that boundary's ageing (R73). -/
def countedBacklog (goneAge : Nat) (p : PeerEntry) : Option Nat :=
  if p.state = .present ∧ agedFrames p < goneAge ∧ p.shareAge ≤ 1 then p.backlog else none

/-- A drop sweep for a station is running. -/
def State.dropRuns (st : Station) (s : State) : Bool :=
  match s.sweep with
  | .drop subject _ _ _ => decide (subject = st)
  | .idle => false
  | .expiry _ _ _ => false

/-- PEER-QUERY (R91). -/
def peerQuery (station : Nat) (s : State) : Answer :=
  if h : station < 16 then
    let st : Station := ⟨station, h⟩
    if st = s.station then (s, .badRequest, .empty)
    else (s, .ok, .peerQuery (s.peer st) (countedBacklog s.settings.goneAge (s.peer st)).isSome (s.dropRuns st))
  else (s, .badRequest, .empty)

/-! ### The commands -/

/-- PEER-QUERY (R91). -/
def execPeerQuery (station : Nat) (s : State) : Result := .next (s.requestAtOnce (.peerQuery station) (peerQuery station))

/-- PEER-DROP (R88). -/
def execPeerDrop (station : Nat) (s : State) : Result := .next (s.requestAtOnce (.peerDrop station) (peerDrop station))

/-- DIGEST-HOLD (R87). -/
def execDigestHold (s : State) : Result := .next (s.requestAtOnce .digestHold digestHold)

/-- DIGEST-RESUME (R87). -/
def execDigestResume (s : State) : Result := .next (s.requestAtOnce .digestResume digestResume)

/-- An entry reaches the gone age (R72). -/
def execPeerGoneAge (station : Station) (s : State) : Result := .next (s.agePeer station)

/-- The digest gap timer reaches the configured gap (R83). -/
def execGapTimerReached (s : State) : Result := .next s.reachGap

/-- A grace-scan visit (R19). -/
def execGraceScanVisit (s : State) : Result := .next s.serveScanVisit

/-- A Digest Sweep visit (R82). -/
def execDigestSweepVisit (s : State) : Result := .next s.serveDigestVisit

/-- A drop sweep step (R89). -/
def execDropSweepStep (s : State) : Result := .next s.serveDropStep

/-- A USAGE at the head of the receive queue (R76). -/
def execUsageReceipt (s : State) : Result := .next s.serveUsage

/-- A SHARE at the head of the receive queue (R71). -/
def execShareReceipt (s : State) : Result := .next (s.receive Notice.backlog receiveShare)

/-- A PRESENCE at the head of the receive queue (R70, R104). -/
def execPresenceReceipt (s : State) : Result := .next (s.receive Notice.beacon receivePresence)

/-- Report due is set again after a loss (R85, R61). -/
def execReportDueAfterLoss (user : Nat) (s : State) : Result := .next (s.dueAfterLoss user)

/-- A RETIRING record is freed at the end of its final notice (R37). -/
def execRetiringRecordFreed (user : Nat) (s : State) : Result := .next (s.freeRetired user)

end Sys2Proof.Machine
end

