-- ==== Sys2Proof/Machine/Duplication.lean ====
section
/-! DEFINITION. The Duplication Unit (chapter 8): queueing work, the window, the share, grants and their ends. -/

namespace Sys2Proof.Machine

/-! ### Entries and counts (R148, R150) -/

/-- Grants in flight (R162). -/
def Dup.inFlight (d : Dup) : Nat := (d.grants.filter fun g => g.grant.isSome).length

/-- Free entries of a region of D entries (R148). -/
def State.freeDups (s : State) : Nat := s.settings.dupEntries - s.dup.queue.length - s.dup.inFlight

/-- A queued EXTENT that names an epoch and token (R151, R168). -/
def isExtent (e : Epoch) (token : Token) (q : DupEntry) : Bool :=
  match q.work with
  | .extent f t _ => f == e && t == token
  | .endMark _ => false
  | .halt => false

/-- A queued EXTENT absorbs a figure: the greater of the two (R152, R168). -/
def absorb (units : Nat) (q : DupEntry) : DupEntry :=
  match q.work with
  | .extent e t own => { q with work := .extent e t (max own units) }
  | .endMark _ => q
  | .halt => q

/-- Appends an entry with next-night parity and retries 0 (R149). -/
def Dup.append (w : DupWork) (d : Dup) : Dup := { d with queue := d.queue ++ [{ work := w, parity := d.nextParity, retries := 0 }] }

/-- The parity of an entry returned to the head (R168). -/
def Dup.returnParity (d : Dup) : Bool := if d.window.isSome then d.tonightParity else d.nextParity

/-- Changes the entry of the epoch that a work names, if it names one. -/
def State.modifyWorkEpoch (w : DupWork) (f : CatEntry → CatEntry) (s : State) : State :=
  match w.epoch with
  | none => s
  | some e => s.modifyEpoch e f

/-! ### DUP-EXTENT, DUP-END, DUP-HALT -/

/-- Checks 4 to 6 of R151 on an entry. -/
def queueStatus (c : CatEntry) : Status :=
  if c.state = .asked ∨ c.state = .ready ∨ c.state = .expiring then .wrongState
  else
    match c.dupState with
    | .ending => .epochEnded
    | .sent => .epochEnded
    | .incomplete => .epochEnded
    | .discarded => .wrongState
    | .notQueued => .ok
    | .queued => .ok

/-- The fields of a DUP-EXTENT or DUP-END reply after the request (R151). -/
def State.queueReply (e : Epoch) (entry : Option DupEntry) (absorbed : Bool) (s : State) : ReplyBody :=
  .dupQueue s.freeDups ((s.findEpoch e).map CatEntry.dupState) (((s.findEpoch e).map CatEntry.queuedCount).getD 0)
    (entry.map fun q => q.work.units) (entry.map DupEntry.parity) absorbed

/-- An absorbed DUP-EXTENT (R152). -/
def State.absorbExtent (e : Epoch) (token : Token) (units : Nat) (s : State) : State :=
  { s with dup := { s.dup with queue := modifyFirst (isExtent e token) (absorb units) s.dup.queue } }

/-- An appended DUP-EXTENT (R152). -/
def State.appendExtent (e : Epoch) (token : Token) (units : Nat) (s : State) : State :=
  State.modifyEpoch e
    (fun c =>
      { c with queuedCount := c.queuedCount + 1, dupState := if c.dupState = .notQueued then .queued else c.dupState })
    { s with dup := s.dup.append (.extent e token units) }

/-- DUP-EXTENT (R151, R152). -/
def dupExtent (e : Epoch) (token : Token) (units : Nat) (s : State) : Answer :=
  if units = 0 then (s, .badRequest, .empty)
  else if Config.maxExtent < units then (s, .range, s.queueReply e none false)
  else
    match s.findEpoch e with
    | none => (s, .noSuchEpoch, s.queueReply e none false)
    | some c =>
      if queueStatus c ≠ .ok then (s, queueStatus c, s.queueReply e none false)
      else if s.dup.queue.any (isExtent e token) then
        let t := s.absorbExtent e token units
        (t, .ok, t.queueReply e (t.dup.queue.find? (isExtent e token)) true)
      else if s.freeDups = 0 then (s, .queueFull, s.queueReply e none false)
      else
        let t := s.appendExtent e token units
        (t, .ok, t.queueReply e t.dup.queue.getLast? false)

/-- An admitted DUP-END (R153). -/
def State.appendEnd (e : Epoch) (s : State) : State :=
  State.modifyEpoch e (fun c => { c with queuedCount := c.queuedCount + 1, dupState := .ending })
    { s with dup := s.dup.append (.endMark e) }

/-- DUP-END (R153). -/
def dupEnd (e : Epoch) (s : State) : Answer :=
  match s.findEpoch e with
  | none => (s, .noSuchEpoch, s.queueReply e none false)
  | some c =>
    if queueStatus c ≠ .ok then (s, queueStatus c, s.queueReply e none false)
    else if s.freeDups = 0 then (s, .queueFull, s.queueReply e none false)
    else
      let t := s.appendEnd e
      (t, .ok, t.queueReply e t.dup.queue.getLast? false)

/-- DUP-HALT (R154). -/
def dupHalt (s : State) : Answer :=
  if s.freeDups = 0 then (s, .queueFull, .dupHalt s.freeDups)
  else
    let t := { s with dup := s.dup.append .halt }
    (t, .ok, .dupHalt t.freeDups)

/-! ### The window (R155, R156, R160) -/

/-- The window opens: the night advances, so that every queued entry is of tonight (R155). -/
def Dup.opened (limit : Nat) (d : Dup) : Dup := { d with night := d.night + 1, window := some limit, debt := 0 }

/-- The share and both budgets at an opening (R155). -/
def Dup.withShare (share : Nat) (d : Dup) : Dup := { d with share := share, frameBudget := share, remaining := share }

/-- An admitted WINDOW-OPEN (R155). -/
def State.openWindow (s : State) : State :=
  let d := s.dup.opened s.settings.windowLimit
  State.offerShare d.backlog { s with dup := d.withShare (shareOf s.settings.capacity d.backlog s.peerTotal) }

/-- WINDOW-OPEN (R155). -/
def windowOpen (s : State) : Answer :=
  if s.dup.window.isSome then (s, .wrongState, .windowOpen none 0 0 0)
  else
    let t := s.openWindow
    (t, .ok, .windowOpen (some t.dup.night) t.dup.backlog t.dup.share t.dup.tonight.length)

/-- WINDOW-CLOSE (R156). -/
def windowClose (s : State) : Answer :=
  if s.dup.window.isSome then (s.closeWindow .request, .ok, .windowClose s.dup.tonight.length)
  else (s, .wrongState, .windowClose 0)

/-- The Duplication Unit at a boundary that leaves the window open: the share, the debt repaid and the budgets (R160). -/
def Dup.newFrame (capacity peerTotal timer : Nat) (d : Dup) : Dup :=
  let share := shareOf capacity d.backlog peerTotal
  let repaid := min d.debt share
  { d with window := some timer, share := share, frameBudget := share - repaid, remaining := share - repaid, debt := d.debt - repaid }

/-- The Duplication Unit's reaction to a boundary (R160). A timer that reaches 0 leaves the closing to be made (log 6). -/
def State.windowBoundary (s : State) : State :=
  match s.dup.window with
  | none => s
  | some 0 => s
  | some 1 => { s with dup := { s.dup with window := some 0 } }
  | some (n + 2) =>
    State.offerShare s.dup.backlog { s with dup := s.dup.newFrame s.settings.capacity s.peerTotal (n + 1) }

/-! ### Grants (R162 to R168) -/

/-- The lowest-numbered FREE slot of the grant table (R162). -/
def State.freeGrant (s : State) : Option (Fin 8) := lowestSlot fun i => (s.grantSlot i).grant.isNone

/-- The next order of granting among the grants in flight. -/
def Dup.nextOrder (d : Dup) : Nat := 1 + (d.grants.map fun g => (g.grant.map Grant.order).getD 0).foldl max 0

/-- The budget and debt after an EXTENT or END is granted; none when it is refused BUDGET (R164). -/
def Dup.charge (units : Nat) (d : Dup) : Option Dup :=
  if units ≤ d.remaining then some { d with remaining := d.remaining - units }
  else if d.remaining = d.frameBudget ∧ d.debt = 0 ∧ 0 < d.frameBudget then
    some { d with debt := units - d.remaining, remaining := 0 }
  else none

/-- The in-flight count of the epoch an END names (R164). -/
def State.epochInFlight (w : DupWork) (s : State) : Nat :=
  match w.epoch with
  | none => 0
  | some e => ((s.findEpoch e).map CatEntry.inFlight).getD 0

/-- A granted entry leaves the queue and takes a slot (R165). -/
def State.grant (i : Fin 8) (q : DupEntry) (rest : List DupEntry) (charged : Dup) (s : State) : State :=
  State.modifyWorkEpoch q.work (fun c => { c with queuedCount := c.queuedCount - 1, inFlight := c.inFlight + 1 })
    { s with
      dup :=
        { charged with
          queue := rest
          grants :=
            charged.grants.set i.val
              { gen := (s.grantSlot i).gen + 1, grant := some { work := q.work, retries := q.retries, order := s.dup.nextOrder } } } }

/-- The fields that every GRANT-TAKE reply carries (R163). -/
def State.takeReply (reason : Option NoGrant) (carried : Nat) (grant : Option (Nat × DupWork × Nat)) (s : State) : ReplyBody :=
  .grantTake reason s.dup.remaining s.dup.frameBudget s.dup.debt s.dup.tonight.length carried grant

/-- The head of the queue, an EXTENT or END, is granted or refused (R164). -/
def grantHead (i : Fin 8) (q : DupEntry) (rest : List DupEntry) (s : State) : Answer :=
  match q.work with
  | .halt => (s, .noGrant, s.takeReply (some .empty) 0 none)
  | .endMark _ =>
    if 0 < s.epochInFlight q.work then (s, .noGrant, s.takeReply (some .order) 0 none)
    else
      let t := s.grant i q rest s.dup
      (t, .ok, t.takeReply none 0 (some (handleOf i ((s.grantSlot i).gen + 1), q.work, q.retries)))
  | .extent _ _ units =>
    match s.dup.charge units with
    | none => (s, .noGrant, s.takeReply (some .budget) 0 none)
    | some charged =>
      let t := s.grant i q rest charged
      (t, .ok, t.takeReply none 0 (some (handleOf i ((s.grantSlot i).gen + 1), q.work, q.retries)))

/-- A HALT at the head is removed and the window closes (R163). -/
def takeHalt (rest : List DupEntry) (s : State) : Answer :=
  let removed := { s with dup := { s.dup with queue := rest } }
  let t := removed.closeWindow .halt
  (t, .halted, t.takeReply none removed.dup.tonight.length none)

/-- GRANT-TAKE (R163, R164). -/
def grantTake (s : State) : Answer :=
  if s.dup.window.isNone then (s, .noGrant, s.takeReply (some .closed) 0 none)
  else
    match s.freeGrant with
    | none => (s, .noGrant, s.takeReply (some .grantsFull) 0 none)
    | some i =>
      if s.dup.tonight.isEmpty then (s, .noGrant, s.takeReply (some .empty) 0 none)
      else
        match s.dup.queue with
        | [] => (s, .noGrant, s.takeReply (some .empty) 0 none)
        | q :: rest => if q.work = .halt then takeHalt rest s else grantHead i q rest s

/-- An entry returned to the queue: absorbed into a queued EXTENT of the same epoch and token, or inserted at the head (R168). -/
def State.returnEntry (w : DupWork) (retries : Nat) (s : State) : State :=
  let head := State.modifyWorkEpoch w (fun c => { c with queuedCount := c.queuedCount + 1 })
    { s with dup := { s.dup with queue := { work := w, parity := s.dup.returnParity, retries := retries } :: s.dup.queue } }
  match w with
  | .extent e token units => if s.dup.queue.any (isExtent e token) then s.absorbExtent e token units else head
  | .endMark _ => head
  | .halt => head

/-- The grant that a handle names (R162). -/
def State.grantOf (handle : Nat) (s : State) : Option Grant :=
  if (s.grantSlot (handleSlot handle)).gen = handleGen handle then (s.grantSlot (handleSlot handle)).grant else none

/-- The slot becomes FREE with its generation kept, and the epoch's in-flight count falls (R166, R167). -/
def State.freeGrantSlot (i : Fin 8) (g : Grant) (s : State) : State :=
  State.modifyWorkEpoch g.work (fun c => { c with inFlight := c.inFlight - 1 })
    { s with dup := { s.dup with grants := s.dup.grants.set i.val { gen := (s.grantSlot i).gen, grant := none } } }

/-- The entry of an epoch whose END has been sent (R166). -/
def endSent (c : CatEntry) : CatEntry := { c with dupState := if c.failedExtent then .incomplete else .sent }

/-- A send that succeeded (R166). -/
def State.grantSucceeds (i : Fin 8) (g : Grant) (s : State) : State :=
  let t := s.freeGrantSlot i g
  match g.work with
  | .endMark e => t.modifyEpoch e endSent
  | .extent _ _ _ => t
  | .halt => t

/-- The value of DUP_EXTENT_FAILED (R167). -/
def DupWork.failedValue : DupWork → CauseValue
  | .extent _ t _ => .token t
  | .endMark _ => .endMark
  | .halt => .endMark

/-- The entry of an epoch whose send was dropped after 3 failures (R167). -/
def sendDropped (w : DupWork) (c : CatEntry) : CatEntry :=
  match w with
  | .extent _ _ _ => { c with failedExtent := true }
  | .endMark _ => { c with failedExtent := true, dupState := .incomplete }
  | .halt => c

/-- A send that failed for the third time (R167). -/
def State.grantDropped (i : Fin 8) (g : Grant) (s : State) : State :=
  let t := (s.freeGrantSlot i g).modifyWorkEpoch g.work (sendDropped g.work)
  match g.work.epoch with
  | none => t
  | some e => t.raise .dupExtentFailed (.epoch e) (some g.work.failedValue)

/-- The duplication state of the epoch a work names, after a request. -/
def State.workDupState (w : DupWork) (s : State) : Option DupState :=
  match w.epoch with
  | none => none
  | some e => (s.findEpoch e).map CatEntry.dupState

/-- GRANT-DONE (R162, R166, R167). -/
def grantDone (handle : Nat) (failed : Bool) (s : State) : Answer :=
  if 63 < handle then (s, .badRequest, .empty)
  else
    match s.grantOf handle with
    | none => (s, .noSuchHandle, .grantDone none 0 none none)
    | some g =>
      if failed then
        if g.retries + 1 < Config.maxFailures then
          let t := (s.freeGrantSlot (handleSlot handle) g).returnEntry g.work (g.retries + 1)
          (t, .ok, .grantDone (some .returned) (g.retries + 1) (some g.work) (t.workDupState g.work))
        else
          let t := s.grantDropped (handleSlot handle) g
          (t, .ok, .grantDone (some .dropped) 0 (some g.work) (t.workDupState g.work))
      else
        let t := s.grantSucceeds (handleSlot handle) g
        (t, .ok, .grantDone (some .done) 0 (some g.work) (t.workDupState g.work))

/-- Inserts a grant by its order of granting, the latest first. -/
def insertGrant (g : Fin 8 × Grant) : List (Fin 8 × Grant) → List (Fin 8 × Grant)
  | [] => [g]
  | h :: hs => if h.2.order < g.2.order then g :: h :: hs else h :: insertGrant g hs

/-- The grants in flight with their slots, the latest first (R170). -/
def State.grantsLatestFirst (s : State) : List (Fin 8 × Grant) :=
  (List.finRange 8).foldr
    (fun i l =>
      match (s.grantSlot i).grant with
      | none => l
      | some g => insertGrant (i, g) l) []

/-- One grant returned by RESTART: a failed send without a retry increment (R170). -/
def State.returnGrant (s : State) (g : Fin 8 × Grant) : State := (s.freeGrantSlot g.1 g.2).returnEntry g.2.work g.2.retries

/-- RESTART returns every grant in reverse order of grant (R170). -/
def State.returnGrants (s : State) : State := s.grantsLatestFirst.foldl State.returnGrant s

/-! ### DUP-QUERY (R169) -/

/-- DUP-QUERY (R169). -/
def dupQuery (s : State) : Answer :=
  (s, .ok,
    .dupQuery s.dup.window s.dup.night s.dup.share s.dup.frameBudget s.dup.remaining s.dup.debt s.dup.backlog s.peerTotal
      s.dup.tonight.length (s.dup.queue.length - s.dup.tonight.length) s.dup.inFlight s.freeDups (8 - s.dup.inFlight)
      s.dup.queue.head?)

/-! ### The commands -/

/-- DUP-EXTENT (R151, R152). -/
def execDupExtent (epoch : Epoch) (token : Token) (units : Nat) (s : State) : Result :=
  .next (s.requestAtOnce (.dupExtent epoch token units) (dupExtent epoch token units))

/-- DUP-END (R153). -/
def execDupEnd (epoch : Epoch) (s : State) : Result := .next (s.requestAtOnce (.dupEnd epoch) (dupEnd epoch))

/-- DUP-HALT (R154). -/
def execDupHalt (s : State) : Result := .next (s.requestAtOnce .dupHalt dupHalt)

/-- WINDOW-OPEN (R155). -/
def execWindowOpen (s : State) : Result := .next (s.requestAtOnce .windowOpen windowOpen)

/-- WINDOW-CLOSE (R156). -/
def execWindowClose (s : State) : Result := .next (s.requestAtOnce .windowClose windowClose)

/-- GRANT-TAKE (R163, R164). -/
def execGrantTake (s : State) : Result := .next (s.requestAtOnce .grantTake grantTake)

/-- GRANT-DONE (R166, R167). -/
def execGrantDone (handle : Nat) (failed : Bool) (s : State) : Result :=
  .next (s.requestAtOnce (.grantDone handle failed) (grantDone handle failed))

/-- DUP-QUERY (R169). -/
def execDupQuery (s : State) : Result := .next (s.requestAtOnce .dupQuery dupQuery)

/-- The window timer reaches 0 (R160). -/
def execWindowLimitExpiry (s : State) : Result := .next s.expireWindow

end Sys2Proof.Machine
end

