-- ==== Sys2Proof/Machine/PeerLine.lean ====
section
/-! DEFINITION. The Peer Line Controller's events: taking the line, sending, receiving, the slots, broken frames and the line states (R49 to R66). -/

namespace Sys2Proof.Machine

/-! ### Shared steps -/

/-- A notice taken from the frame in progress and not yet available (R53, R62). -/
def State.takenNotice (s : State) : Option RxNotice := s.recv.find? fun r => !r.available

/-- The frame in progress is given up: a notice taken from it but not yet available is removed (R54, R65). -/
def State.dropFrame (s : State) : State :=
  { s with recv := s.recv.filter fun r => r.available, line := { s.line with rx := .noFrame } }

/-- The line state changes; nothing is being sent. -/
def State.setLine (state : LineState) (rx : Rx) (s : State) : State := { s with line := { state := state, rx := rx, sendBits := [] } }

/-- This station is in the reception of a frame, its own stretch apart. -/
def State.inFrame (s : State) : Bool :=
  match s.line.rx with
  | .noFrame => false
  | .receiving _ => true
  | .stretching _ _ => false
  | .judged _ => true

/-- The line is BUSY, with nothing held low by this station (R63). -/
def State.busyFree (s : State) : Bool :=
  match s.line.state with
  | .busy _ => !s.stretchesCL
  | .detached => false
  | .idle => false
  | .sending => false
  | .stuck => false

/-- A new frame begins at another station's start (R49, R52, R54). -/
def State.beginReception (s : State) : State := s.dropFrame.setLine (.busy .frame) (.receiving [])

/-! ### Sending (R49 to R51, R57) -/

/-- The head of the outbound queue is in transmission (R49). -/
def markSending : List QNotice → List QNotice
  | [] => []
  | q :: qs => { q with sending := true } :: qs

/-- Own start (R49): the queue as the last boundary and every other event have left it (log 6). -/
def State.startSending (s : State) : State :=
  let t := s.settle
  match t.line.state, t.out.queue with
  | .idle, q :: _ =>
    { t with
      out := { t.out with queue := markSending t.out.queue }
      line := { state := .sending, rx := .noFrame, sendBits := frameBits t.station q.notice } }
  | .idle, [] => s
  | .detached, _ => s
  | .busy _, _ => s
  | .sending, _ => s
  | .stuck, _ => s

/-- The bit at a place of the frame was sent as 1. -/
def State.sentOne (bit : Nat) (s : State) : Bool := s.line.sendBits.getD bit false

/-- Arbitration lost at a header bit: this station receives the frame with the bits sampled so far (R50). -/
def State.loseArbitration (bit : Nat) (s : State) : State :=
  let t := s.settle
  if t.line.state = .sending ∧ bit < 10 ∧ t.sentOne bit = true then
    t.abandonAttempt.setLine (.busy .frame) (.receiving (t.line.sendBits.take bit ++ [false]))
  else s

/-- The notice in transmission. -/
def State.sendingNotice (s : State) : Option QNotice := s.out.queue.find? fun q => q.sending

/-- A clash in the payload or the check (R51). -/
def State.meetClash (bit : Nat) (s : State) : State :=
  let t := s.settle
  if t.line.state = .sending ∧ 10 ≤ bit ∧ t.sentOne bit = true then
    match t.sendingNotice with
    | none => s
    | some q =>
      ((t.endTransmission .clash).setLine (.busy .frame) .noFrame).raise .addressClash (.station t.station)
        (some (.noticeKind q.notice.code))
  else s

/-- The attempt met another station's start or stop (R51). -/
def State.meetChange (byStart : Bool) (s : State) : State :=
  let t := s.settle
  if t.line.state = .sending then
    if byStart then t.abandonAttempt.setLine (.busy .frame) (.receiving []) else t.abandonAttempt.setLine (.busy .gap) .noFrame
  else s

/-- The outcome's action on the notice in transmission (R56, R57). DL low in slot A alone is DELIVERED; high in both, UNHEARD. -/
def State.actOnSlots (slotA slotR : Bool) (s : State) : State :=
  if slotA && !slotR then s.endTransmission .delivered
  else if !slotA && !slotR && !s.anyPresent then s.endTransmission .noListener
  else s.failAttempt

/-- The stop of this station's own frame (R57, R63, R74). -/
def State.endAttempt (slotA slotR : Bool) (s : State) : State :=
  let t := s.settle
  if t.line.state = .sending then { (t.actOnSlots slotA slotR).setLine (.busy .gap) .noFrame with ownFrame := true } else s

/-! ### Receiving (R52, R53, R55, R62) -/

/-- The verdict on a frame of known kind (R53). -/
def State.verdict (f : SampledFrame) (n : Notice) (s : State) : State :=
  let judge := fun (slot : Option Slot) (t : State) => { t with line := { t.line with rx := .judged slot } }
  if checkPasses f = false then judge (some .slotR) s
  else if noticeWellFormed f n = false then judge (some .slotR) s
  else if f.station = s.station then
    judge none (s.raise .addressClash (.station s.station) (some (.noticeKind n.code)))
  else if s.recv.length < Config.receiveSlots then
    judge (some .slotA) { s with recv := s.recv ++ [{ sender := f.station, notice := n, available := false }] }
  else { s with line := { s.line with rx := .stretching f.station n } }

/-- The end of the check, or of the header of an unknown kind (R52, R53). The header agrees with the bits already sampled as a transmitter
(R50). -/
def State.judgeFrame (f : SampledFrame) (s : State) : State :=
  let t := s.settle
  match t.line.rx with
  | .receiving seen =>
    if seen.isPrefixOf (sampledHeader f) then
      match readNotice f.kind f.payload with
      | none => { t with line := { t.line with rx := .judged none } }
      | some n => t.verdict f n
    else s
  | .noFrame => s
  | .stretching _ _ => s
  | .judged _ => s

/-- 2 ms of stretch pass with the receive queue still full (R55). -/
def State.stretchLimit (s : State) : State :=
  match s.line.rx with
  | .stretching _ _ => if s.recv.length < Config.receiveSlots then s else { s with line := { s.line with rx := .judged (some .slotR) } }
  | .noFrame => s
  | .receiving _ => s
  | .judged _ => s

/-- The notice taken becomes available at the stop (R62). -/
def State.makeAvailable (s : State) : State :=
  { s with recv := s.recv.map fun r => { r with available := true } }

/-- The stop of a frame from which a notice was taken: it becomes available, its sender is heard, and the idle gap begins (R62, R69). -/
def State.frameStops (stepServed : Bool) (s : State) : State :=
  let t := s.settle
  match t.takenNotice with
  | none => s
  | some r => (t.makeAvailable.setLine (.busy .gap) .noFrame).hear r.sender stepServed

/-- A broken frame (R54). -/
def State.breakFrame (how : FrameBreak) (s : State) : State :=
  if s.inFrame then
    match how with
    | .byStart => s.beginReception
    | .byStop => s.dropFrame.setLine (.busy .gap) .noFrame
    | .overlong => s.dropFrame.setLine (.busy .frame) .noFrame
  else s

/-! ### Line states (R63 to R66) -/

/-- Another station's start: from an idle line, during the gap or attachment, or inside any BUSY that this station does not hold (R49, R52). -/
def State.anotherStart (s : State) : State :=
  if s.line.state = .idle || s.busyFree then s.beginReception else s

/-- A fall of CL that is not part of a start (R64, R46). -/
def State.strayFall (s : State) : State :=
  if s.line.state = .idle ∨ s.line.state = .busy .gap then s.setLine (.busy .stray) .noFrame else s

/-- Both wires high for 1 ms (R54, R64). -/
def State.busyEnds (s : State) : State := if s.busyFree then s.dropFrame.setLine .idle .noFrame else s

/-- The line waits for a stop and the idle gap, or for the gap alone (R46). -/
def State.awaitsGap (s : State) : Bool :=
  match s.line.state with
  | .busy .gap => true
  | .busy .stray => true
  | .busy .frame =>
    match s.line.rx with
    | .noFrame => true
    | .receiving _ => false
    | .stretching _ _ => false
    | .judged _ => s.takenNotice.isNone
  | .busy .attachment => false
  | .detached => false
  | .idle => false
  | .sending => false
  | .stuck => false

/-- A stop, if one was still awaited, and 12 bit times with both wires high (R46). -/
def State.gapEnds (s : State) : State := if s.awaitsGap then s.setLine .idle .noFrame else s

/-- 12 bit times with both wires high end attachment (R63). -/
def State.attached (s : State) : State := if s.line.state = .busy .attachment then s.setLine .idle .noFrame else s

/-- The station takes part on the line, or watches it. -/
def LineState.measures : LineState → Bool
  | .detached => false
  | .stuck => false
  | .idle => true
  | .busy _ => true
  | .sending => true

/-- The wires are counted as low by this station: in every line state in which it measures, CL not while its own stretch holds it (R65,
log 41). -/
def State.counts (w : Wires) (s : State) : Bool := s.line.state.measures && (decide (w = .dl) || !s.stretchesCL)

/-- A wire is low for more than 20 ms (R65). -/
def State.stick (w : Wires) (s : State) : State :=
  let t := s.settle
  if t.counts w then
    let u := if t.line.state = .sending then t.abandonAttempt else t
    (u.dropFrame.setLine .stuck .noFrame).raise .lineStuck (.station t.station) (some (.wires w))
  else s

/-- Both wires high for 1 ms in STUCK (R66). -/
def State.unstick (s : State) : State :=
  let t := s.settle
  if t.line.state = .stuck then (t.setLine .idle .noFrame).raise .lineRestored (.station t.station) none else s

/-! ### The commands -/

/-- Own start (R49). -/
def execNoticeSendStart (s : State) : Result := .next s.startSending

/-- Arbitration lost (R50). -/
def execArbitrationLost (bit : Nat) (s : State) : Result := .next (s.loseArbitration bit)

/-- Station-number clash while sending (R51). -/
def execStationNumberClash (bit : Nat) (s : State) : Result := .next (s.meetClash bit)

/-- The stop after the slots (R57). -/
def execSendAttemptEnd (slotA slotR : Bool) (s : State) : Result := .next (s.endAttempt slotA slotR)

/-- The end of the check (R53). -/
def execNoticeVerdict (frame : SampledFrame) (s : State) : Result := .next (s.judgeFrame frame)

/-- A stretch reaches 2 ms (R55). -/
def execStretchTimeout (s : State) : Result := .next s.stretchLimit

/-- An entry left the receive queue during a stretch (R55). -/
def execStretchEntryFreed (s : State) : Result := .next s.takeStretched

/-- The stop of a frame whose notice was taken (R62). -/
def execNoticeAvailable (stepServed : Bool) (s : State) : Result := .next (s.frameStops stepServed)

/-- A broken frame (R54). -/
def execFrameBroken (how : FrameBreak) (s : State) : Result := .next (s.breakFrame how)

/-- Stray clocking (R64). -/
def execStrayClocking (s : State) : Result := .next s.strayFall

/-- 1 ms of high wires (R64). -/
def execBusyTimeout (s : State) : Result := .next s.busyEnds

/-- The idle gap ends (R46). -/
def execIdleGapEnd (s : State) : Result := .next s.gapEnds

/-- Attachment ends (R63). -/
def execAttachmentEnd (s : State) : Result := .next s.attached

/-- The line is stuck (R65). -/
def execLineStuck (wires : Wires) (s : State) : Result := .next (s.stick wires)

/-- The line is restored (R66). -/
def execLineRestored (s : State) : Result := .next s.unstick

/-- Another station's start (R49). -/
def execAnotherStationStart (s : State) : Result := .next s.anotherStart

/-- The attempt is abandoned (R51). -/
def execAttemptAbandoned (byStart : Bool) (s : State) : Result := .next (s.meetChange byStart)

end Sys2Proof.Machine
end

