-- ==== Sys2Proof/Machine/Timebase.lean ====
section
/-! DEFINITION. The Timebase (chapter 9): the frame boundary and every block's counts at it (R173, R174, R177, R18, R72 to R74, R83, R110, R111,
R141, R160), the fallback (R175), the reference monitor (R172) and TIMEBASE-RETRY (R176). -/

namespace Sys2Proof.Machine

/-! ### The frame boundary -/

/-- The cycles of one frame (R173). -/
def State.frameCycles (s : State) : Nat := s.settings.frameLength * Config.cyclesPerSecond

/-- The frame number advances, and the count returns to 0 (R173, R174). -/
def State.advanceFrame (s : State) : State := { s with tb := { s.tb with timer := 0, frame := s.tb.frame + 1 } }

/-- A pending switch-back at a boundary (R177); its RETRY_FAILED is the boundary's first cause (DESIGN CHOICE, log 37). -/
def State.switchBack (s : State) : State :=
  if s.tb.switchBack then
    if s.tb.refPresent then { s with tb := { s.tb with source := .reference, switchBack := false } }
    else
      State.raise .timebaseFallback (.station s.station) (some (.fallback .retryFailed))
        { s with tb := { s.tb with switchBack := false } }
  else s

/-- The ageing of one peer entry, with its share age (R72, R73). -/
def agedPeer (p : PeerEntry) : PeerEntry := { p with framesSince := agedFrames p, shareAge := min 255 (p.shareAge + 1) }

/-- The peer backlog total (R73). -/
def totalBacklog (goneAge : Nat) : List PeerEntry → Nat
  | [] => 0
  | p :: ps => (countedBacklog goneAge p).getD 0 + totalBacklog goneAge ps

/-- Every entry but the own one ages; the total is formed from them (R68, R72, R73). The own entry is never PRESENT and counts nothing. The
change to GONE follows in its own row (log 6). -/
def State.agePeers (s : State) : State :=
  { s with
    peerTotal := totalBacklog s.settings.goneAge s.peers
    peers := (s.peers.map agedPeer).set s.station.val (s.peer s.station) }

/-- The beacon, and the own-frame flag cleared (R74). -/
def State.beacon (s : State) : State := { (if s.ownFrame then s else s.offerPresence) with ownFrame := false }

/-- One frame less of an ask or close timer (R110, R111). -/
def tickEntry (c : CatEntry) : CatEntry := { c with timer := c.timer.map (· - 1) }

/-- The ask timer and the close timers (R110, R111, R112). -/
def State.tickCatalogue (s : State) : State := { s with cat := s.cat.map tickEntry }

/-- One more idle frame of an ACTIVE job whose release is not waiting (R141). -/
def idleJob (slot : JobSlot) : JobSlot :=
  match slot.job with
  | none => slot
  | some j => if j.releaseWaiting then slot else { slot with job := some { j with idle := j.idle + 1 } }

/-- The idle counts (R141). -/
def State.tickJobs (s : State) : State := { s with jobs := s.jobs.map idleJob }

/-- The grace scan starts, or owes one more (R18). -/
def State.startScan (s : State) : State :=
  if s.scan.running then { s with scan := { s.scan with owed := min 255 (s.scan.owed + 1) } }
  else { s with scan := { running := true, cursor := none, owed := 0 } }.continueScan

/-- The Digest Sweep's batch count (R83). -/
def State.clearBatch (s : State) : State := { s with digest := { s.digest with batch := 0 } }

/-- The Duplication Unit taken before the Peer View's beacon: a window whose timer reaches 0 closes at once (R160). -/
def State.windowThenBeacon (s : State) : State := s.windowBoundary.expireWindow.beacon

/-- The offers of the Peer View and of the Duplication Unit, between which the manual gives no order (log 32). -/
def State.boundaryOffers (windowFirst : Bool) (s : State) : State :=
  if windowFirst then s.windowThenBeacon else s.beacon.windowBoundary

/-- A frame boundary (R173): what the last one left owed is made first (log 6), then the frame number advances (log 19) and every block makes
its counts. R195 lets the causes of different blocks be taken in either order: RETRY_FAILED of the Timebase (R177) comes before every other
cause of the boundary (DESIGN CHOICE, log 37). The rules do not order the offers of PRESENCE and SHARE (R74, R161) against the withdrawal of
the own EPOCH-PROPOSE by an ask timer that this boundary takes to 0 (R110, R100): the offers made here come first, and find the entry still
taken (DESIGN CHOICE, log 45). -/
def State.boundary (windowFirst : Bool) (s : State) : State :=
  ((((s.settle.advanceFrame.switchBack.agePeers).boundaryOffers windowFirst).tickCatalogue.tickJobs).startScan).clearBatch

/-- The frame timer expires (R173); with the source NONE no boundary comes. -/
def State.frameExpiry (windowFirst : Bool) (s : State) : State := if s.tb.source = .unclocked then s else s.boundary windowFirst

/-! ### The fallback and the reference monitor -/

/-- The fallback itself (R175). -/
def State.fallBack (count : Nat) (s : State) : State :=
  State.raise .timebaseFallback (.station s.station) (some (.fallback .lost))
    { s with tb := { s.tb with source := .internal, refPresent := false, timer := count + Config.fallbackAdvance } }

/-- Loss of the reference while counting on it (R175), with what earlier events left owed made first (log 6): `count` is the frame timer's
count at that moment, which the model does not follow between commands (log 18). A count that the advance takes to the frame's length expires at once. -/
def State.loseReference (count : Nat) (windowFirst : Bool) (s : State) : State :=
  if s.tb.source = .reference ∧ s.tb.timer ≤ count ∧ count < s.frameCycles then
    let t := s.settle.fallBack count
    if s.frameCycles ≤ count + Config.fallbackAdvance then t.boundary windowFirst else t
  else s

/-- An edge of REFCLK arrives (R172). -/
def State.referenceReturns (s : State) : State := { s with tb := { s.tb with refPresent := true } }

/-- 50 µs without an edge while the source is INTERNAL or NONE (R172, R175). -/
def State.referenceAbsent (s : State) : State :=
  if s.tb.source = .reference then s else { s with tb := { s.tb with refPresent := false } }

/-! ### TIMEBASE-RETRY (R176) -/

/-- The fields of every TIMEBASE-RETRY reply (R176). -/
def State.retryReply (already : Bool) (s : State) : ReplyBody :=
  .timebaseRetry s.tb.source s.tb.switchBack s.tb.refPresent s.tb.frame already

/-- TIMEBASE-RETRY (R176). The source is never NONE on a RUNNING station (R178). -/
def timebaseRetry (s : State) : Answer :=
  match s.tb.source with
  | .reference => (s, .ok, s.retryReply true)
  | .internal =>
    let t := { s with tb := { s.tb with switchBack := s.tb.refPresent } }
    (t, if s.tb.refPresent then .ok else .noReference, t.retryReply false)
  | .unclocked => (s, .noReference, s.retryReply false)

/-! ### The commands -/

/-- TIMEBASE-RETRY (R176). -/
def execTimebaseRetry (s : State) : Result := .next (s.requestAtOnce .timebaseRetry timebaseRetry)

/-- A frame boundary (R173). -/
def execFrameBoundary (windowFirst : Bool) (s : State) : Result := .next (s.frameExpiry windowFirst)

/-- A fallback (R175). -/
def execReferenceFallback (count : Nat) (windowFirst : Bool) (s : State) : Result := .next (s.loseReference count windowFirst)

/-- The reference is present again (R172). -/
def execReferenceEdgeReturns (s : State) : Result := .next s.referenceReturns

/-- The reference is absent, with no change of source (R172). -/
def execReferenceMonitorAbsent (s : State) : Result := .next s.referenceAbsent

end Sys2Proof.Machine
end

