-- ==== Sys2Proof/Machine/Station.lean ====
section
/-! DEFINITION. Power, RESET and the Local Link Interface's own commands (chapter 10): transactions, the taking of requests, NOP, CONFIGURE,
RESTART, STATION-QUERY; and READ-CAUSE (R199). -/

namespace Sys2Proof.Machine

/-! ### CONFIGURE (R188, R189) -/

/-- A field lies in its range, or its index is the first that does not (R188). -/
def inRange (lo hi v : Nat) : Bool := decide (lo ≤ v) && decide (v ≤ hi)

/-- The sixteen range checks in index order (10.4); the line rate is 1, 2 or 4 (R202). -/
def rangeChecks (c : Settings) : List Bool :=
  [ inRange 1 60 c.frameLength, c.lineRate == 1 || c.lineRate == 2 || c.lineRate == 4, inRange 0 8 c.heldWeight, inRange 0 1048575 c.grace
    , inRange 1 65535 c.reportStep, inRange 1 255 c.digestBatch, inRange 0 255 c.digestGap, inRange 2 255 c.goneAge
    , inRange 1 255 c.askLimit, inRange 1 255 c.closeLimit, inRange 1 255 c.idleLimit, inRange 1 65535 c.capacity
    , inRange 1 65535 c.windowLimit, inRange 64 6144 c.userRecords, inRange 256 8192 c.holdRecords, inRange 64 1024 c.dupEntries ]

/-- The words that the three regions need (R188). -/
def sizingSum (c : Settings) : Nat := c.userRecords * 16 + c.holdRecords * 2 + c.dupEntries * 2

/-- The index that refuses a CONFIGURE: the first field out of range, 17 for the sizing check, 0 when it passes (R188). -/
def badIndex (c : Settings) : Nat :=
  match (rangeChecks c).findIdx? (fun ok => !ok) with
  | some i => i + 1
  | none => if Config.recordStoreWords < sizingSum c then 17 else 0

/-- An accepted CONFIGURE (R189): the gap timer stands at the configured gap (R92), attachment begins (R63), and the frame timer starts on the
source that the monitor allows (R178). -/
def State.accept (c : Settings) (s : State) : State :=
  let t := { s with
    cfg := some c
    link := { s.link with running := true }
    digest := { s.digest with gapTimer := c.digestGap }
    line := { state := .busy .attachment, rx := .noFrame, sendBits := [] }
    tb := { s.tb with source := if s.tb.refPresent then .reference else .internal, timer := 0 } }
  if s.tb.refPresent then t else t.raise .timebaseFallback (.station s.station) (some (.fallback .absentAtStart))

/-- CONFIGURE (R186, R188, R189). -/
def configure (c : Settings) (s : State) : Answer :=
  if s.link.running then (s, .wrongState, .configure s.station 0 (sizingSum c) 0 none)
  else if badIndex c = 0 then
    (s.accept c, .ok, .configure s.station 0 (sizingSum c) (Config.recordStoreWords - sizingSum c) (some (s.accept c).tb.source))
  else (s, .badConfig, .configure s.station (badIndex c) (sizingSum c) 0 none)

/-! ### RESTART (R190) -/

/-- The releases that RESTART offers, one for each ACTIVE job in ascending slot order (R146). -/
def State.restartClients (s : State) : List Client :=
  ((List.finRange 8).filter fun i => !s.slotFree i).map fun i => .restartRelease i (s.jobSlot i).gen

/-- What RESTART does at its taking (R190, R24, R87, R146, R170, R200). -/
def State.restartReactions (s : State) : State :=
  let t := s.returnGrants
  { t with
    watch := []
    causes := []
    digest := { t.digest.wake with held := false }
    class1 := t.class1 ++ t.restartClients }

/-- RESTART is taken: it stays in progress until the last of its releases has ended (R190). -/
def State.takeRestart (s : State) : State :=
  let t := s.settle
  let u := t.restartReactions
  State.finishRestart
    { u with
      link := { u.link with inProgress := some { code := Request.code .restart, mark := false, work := .restart 0 t.dup.inFlight } } }

/-! ### STATION-QUERY and READ-CAUSE -/

/-- The free count of each collection (R192). -/
def State.freeCounts (s : State) : FreeCounts :=
  { users := s.cfg.map fun c => c.userRecords - s.users.length
    holds := s.cfg.map fun _ => s.freeHolds
    dups := s.cfg.map fun _ => s.freeDups
    catalogue := Config.catalogueSlots - s.cat.length
    jobs := (s.jobs.filter fun j => j.job.isNone).length
    grants := (s.dup.grants.filter fun g => g.grant.isNone).length
    outbound := Config.outboundSlots - s.out.queue.length
    receive := Config.receiveSlots - s.recv.length
    causes := Config.causeSlots - s.causes.length
    watch := Config.watchSlots - s.watch.length }

/-- The peer entries in a state, of all 16 (R192, R68, log 34). -/
def State.peersIn (p : PeerState) (s : State) : Nat := (s.peers.filter fun e => decide (e.state = p)).length

/-- STATION-QUERY (R192). -/
def stationQuery (s : State) : Answer :=
  (s, .ok,
    .stationQuery s.station s.link.running s.line.state s.tb.source s.tb.frame s.latest (s.peersIn .absent) (s.peersIn .present)
      (s.peersIn .gone) s.freeCounts)

/-- READ-CAUSE (R199). -/
def readCause (s : State) : Answer :=
  let left := dropNextCause s.causes
  ({ s with causes := left }, .ok, .readCause (nextCause s.causes) left.length (left.filter fun r => r.urgent).length)

/-! ### The hand-over of a request given by its bytes (R182, R183) -/

/-- Each request goes to its owning block (R183). NOP goes to none (R185). -/
def handOver (r : Request) : State → State :=
  match r with
  | .nop => fun s => s
  | .configure c => State.takeAtOnce r.code (configure c)
  | .restart => State.takeRestart
  | .stationQuery => State.takeAtOnce r.code stationQuery
  | .readCause => State.takeAtOnce r.code readCause
  | .timebaseRetry => State.takeAtOnce r.code timebaseRetry
  | .access a => State.takeAccess a
  | .peerQuery st => State.takeAtOnce r.code (peerQuery st)
  | .peerDrop st => State.takeAtOnce r.code (peerDrop st)
  | .digestHold => State.takeAtOnce r.code digestHold
  | .digestResume => State.takeAtOnce r.code digestResume
  | .snapTake => State.takeAtOnce r.code snapTake
  | .snapReady e => State.takeAtOnce r.code (snapReady e)
  | .snapQuery e m => State.takeAtOnce r.code (snapQuery e m)
  | .snapExpire e d => State.takeAtOnce r.code (snapExpire e d)
  | .dupExtent e t n => State.takeAtOnce r.code (dupExtent e t n)
  | .dupEnd e => State.takeAtOnce r.code (dupEnd e)
  | .dupHalt => State.takeAtOnce r.code dupHalt
  | .windowOpen => State.takeAtOnce r.code windowOpen
  | .windowClose => State.takeAtOnce r.code windowClose
  | .grantTake => State.takeAtOnce r.code grantTake
  | .grantDone h f => State.takeAtOnce r.code (grantDone h f)
  | .dupQuery => State.takeAtOnce r.code dupQuery

/-! ### Power and RESET (R191, R187) -/

/-- LSEL is low in a transaction that a reset falling now abandons, or whose rise was already not to be judged (R191). -/
def State.selected (s : State) : Bool := s.ignored || s.link.txn.isSome

/-- Supply is applied: every block at its power-on value, and no transaction taken until the power-on ends (R191, log 29, log 40). -/
def State.applyPower (refclk : Bool) (s : State) : State :=
  { State.powerOn true 0 refclk with ignored := s.selected, pending := s.pending }

/-- RESET falls: the same, with the board's inputs as they are (R191, R187, R178, log 29). -/
def State.holdReset (s : State) : State :=
  { State.powerOn true s.station s.tb.refPresent with ignored := s.selected, pending := s.pending }

/-- LSEL falls: a transaction begins (R181), or one that is not taken, while RESET is low (R191). -/
def State.startTransaction (s : State) : State :=
  if s.ignored then s else if s.resetLow then { s with ignored := true } else { s with link := s.link.start }

/-- RESET rises, or power-on ends: the straps are sampled (R187). -/
def State.releaseReset (straps : Station) (s : State) : State :=
  if s.resetLow then { s with station := straps, resetLow := false } else s

/-! ### The commands -/

/-- POWER_ON (R191). -/
def execPowerOn (refclk : Bool) (s : State) : Result := .next (s.applyPower refclk)

/-- RESET falls (R191). -/
def execResetPinAssert (s : State) : Result := .next s.holdReset

/-- RESET rises (R187). -/
def execResetPinRelease (straps : Station) (s : State) : Result := .next (s.releaseReset straps)

/-- LSEL falls (R181). -/
def execTransactionStart (s : State) : Result := .next s.startTransaction

/-- The eighth rising edge of LCLK in a transaction (R181). -/
def execReplyDelivered (s : State) : Result := .next (if s.resetLow then s else { s with link := s.link.deliver })

/-- A rise of LSEL after `edges` samples of LDI: their whole bytes and a partial one are judged (R180, R182). -/
def execLinkTransactionOther (edges ldi : Nat) (s : State) : Result :=
  let clocked := octets (bitsOf edges ldi)
  .next (s.endTransaction (parseRecord clocked.1) clocked.2 handOver)

/-- A Quota Table request is taken and begins to wait at the arbiter (R183). -/
def execLocalRequestTaken (request : Access) (s : State) : Result := .next (s.endWith (.access request) (State.takeAccess request))

/-- NOP (R185). -/
def execNop (s : State) : Result := .next (s.endWith .nop fun t => t)

/-- CONFIGURE (R188, R189). -/
def execConfigure (settings : Settings) (s : State) : Result := .next (s.requestAtOnce (.configure settings) (configure settings))

/-- RESTART (R190). -/
def execRestart (s : State) : Result := .next (s.endWith .restart State.takeRestart)

/-- STATION-QUERY (R192). -/
def execStationQuery (s : State) : Result := .next (s.requestAtOnce .stationQuery stationQuery)

/-- READ-CAUSE (R199). -/
def execReadCause (s : State) : Result := .next (s.requestAtOnce .readCause readCause)

end Sys2Proof.Machine
end

