-- ==== Sys2Proof/Machine/Dispatch.lean ====
section
/-! DEFINITION. One arm for each command. -/

namespace Sys2Proof.Machine

/-- The meaning of a command: its effect on everything but the queue of waiting commands. -/
def exec (i : Instr) (s : State) : Host.Outcome State Fault Refusal :=
  match i with
  | .powerOn refclk => Sys2Proof.Machine.execPowerOn refclk s
  | .resetPinAssert => Sys2Proof.Machine.execResetPinAssert s
  | .resetPinRelease straps => Sys2Proof.Machine.execResetPinRelease straps s
  | .transactionStart => Sys2Proof.Machine.execTransactionStart s
  | .linkTransactionOther edges ldi => Sys2Proof.Machine.execLinkTransactionOther edges ldi s
  | .localRequestTaken request => Sys2Proof.Machine.execLocalRequestTaken request s
  | .nop => Sys2Proof.Machine.execNop s
  | .configure settings => Sys2Proof.Machine.execConfigure settings s
  | .restart => Sys2Proof.Machine.execRestart s
  | .stationQuery => Sys2Proof.Machine.execStationQuery s
  | .readCause => Sys2Proof.Machine.execReadCause s
  | .timebaseRetry => Sys2Proof.Machine.execTimebaseRetry s
  | .charge user n => Sys2Proof.Machine.execCharge user n s
  | .credit user n => Sys2Proof.Machine.execCredit user n s
  | .userLoad user soft hard live => Sys2Proof.Machine.execUserLoad user soft hard live s
  | .userLimits user soft hard => Sys2Proof.Machine.execUserLimits user soft hard s
  | .userFreeze user => Sys2Proof.Machine.execUserFreeze user s
  | .userThaw user => Sys2Proof.Machine.execUserThaw user s
  | .userRetire user => Sys2Proof.Machine.execUserRetire user s
  | .userQuery user => Sys2Proof.Machine.execUserQuery user s
  | .userResync user => Sys2Proof.Machine.execUserResync user s
  | .userWatch user => Sys2Proof.Machine.execUserWatch user s
  | .userUnwatch user => Sys2Proof.Machine.execUserUnwatch user s
  | .hold user epoch n => Sys2Proof.Machine.execHold user epoch n s
  | .restoreBegin user epoch n => Sys2Proof.Machine.execRestoreBegin user epoch n s
  | .restoreProgress handle k => Sys2Proof.Machine.execRestoreProgress handle k s
  | .restoreEnd handle => Sys2Proof.Machine.execRestoreEnd handle s
  | .idleTimeoutRelease => Sys2Proof.Machine.execIdleTimeoutRelease s
  | .restartRelease => Sys2Proof.Machine.execRestartRelease s
  | .peerQuery station => Sys2Proof.Machine.execPeerQuery station s
  | .peerDrop station => Sys2Proof.Machine.execPeerDrop station s
  | .digestHold => Sys2Proof.Machine.execDigestHold s
  | .digestResume => Sys2Proof.Machine.execDigestResume s
  | .snapTake => Sys2Proof.Machine.execSnapTake s
  | .snapReady epoch => Sys2Proof.Machine.execSnapReady epoch s
  | .snapQuery epoch mode => Sys2Proof.Machine.execSnapQuery epoch mode s
  | .snapExpire epoch discard => Sys2Proof.Machine.execSnapExpire epoch discard s
  | .dupExtent epoch token units => Sys2Proof.Machine.execDupExtent epoch token units s
  | .dupEnd epoch => Sys2Proof.Machine.execDupEnd epoch s
  | .dupHalt => Sys2Proof.Machine.execDupHalt s
  | .windowOpen => Sys2Proof.Machine.execWindowOpen s
  | .windowClose => Sys2Proof.Machine.execWindowClose s
  | .grantTake => Sys2Proof.Machine.execGrantTake s
  | .grantDone handle failed => Sys2Proof.Machine.execGrantDone handle failed s
  | .dupQuery => Sys2Proof.Machine.execDupQuery s
  | .frameBoundary windowFirst => Sys2Proof.Machine.execFrameBoundary windowFirst s
  | .peerGoneAge station => Sys2Proof.Machine.execPeerGoneAge station s
  | .askTimerExpiry => Sys2Proof.Machine.execAskTimerExpiry s
  | .closeTimerExpiry epoch => Sys2Proof.Machine.execCloseTimerExpiry epoch s
  | .idleLimitReached slot => Sys2Proof.Machine.execIdleLimitReached slot s
  | .windowLimitExpiry => Sys2Proof.Machine.execWindowLimitExpiry s
  | .gapTimerReached => Sys2Proof.Machine.execGapTimerReached s
  | .graceScanVisit => Sys2Proof.Machine.execGraceScanVisit s
  | .digestSweepVisit => Sys2Proof.Machine.execDigestSweepVisit s
  | .expirySweepStep => Sys2Proof.Machine.execExpirySweepStep s
  | .dropSweepStep => Sys2Proof.Machine.execDropSweepStep s
  | .usageReceipt => Sys2Proof.Machine.execUsageReceipt s
  | .epochProposeReceipt => Sys2Proof.Machine.execEpochProposeReceipt s
  | .epochReadyReceipt => Sys2Proof.Machine.execEpochReadyReceipt s
  | .epochLatestReceipt => Sys2Proof.Machine.execEpochLatestReceipt s
  | .shareReceipt => Sys2Proof.Machine.execShareReceipt s
  | .presenceReceipt => Sys2Proof.Machine.execPresenceReceipt s
  | .noticeSendStart => Sys2Proof.Machine.execNoticeSendStart s
  | .arbitrationLost bit => Sys2Proof.Machine.execArbitrationLost bit s
  | .stationNumberClash bit => Sys2Proof.Machine.execStationNumberClash bit s
  | .sendAttemptEnd slotA slotR => Sys2Proof.Machine.execSendAttemptEnd slotA slotR s
  | .retiringRecordFreed user => Sys2Proof.Machine.execRetiringRecordFreed user s
  | .reportDueAfterLoss user => Sys2Proof.Machine.execReportDueAfterLoss user s
  | .noticeVerdict frame => Sys2Proof.Machine.execNoticeVerdict frame s
  | .stretchTimeout => Sys2Proof.Machine.execStretchTimeout s
  | .stretchEntryFreed => Sys2Proof.Machine.execStretchEntryFreed s
  | .noticeAvailable stepServed => Sys2Proof.Machine.execNoticeAvailable stepServed s
  | .frameBroken how => Sys2Proof.Machine.execFrameBroken how s
  | .strayClocking => Sys2Proof.Machine.execStrayClocking s
  | .busyTimeout => Sys2Proof.Machine.execBusyTimeout s
  | .idleGapEnd => Sys2Proof.Machine.execIdleGapEnd s
  | .attachmentEnd => Sys2Proof.Machine.execAttachmentEnd s
  | .lineStuck wires => Sys2Proof.Machine.execLineStuck wires s
  | .lineRestored => Sys2Proof.Machine.execLineRestored s
  | .referenceFallback count windowFirst => Sys2Proof.Machine.execReferenceFallback count windowFirst s
  | .referenceEdgeReturns => Sys2Proof.Machine.execReferenceEdgeReturns s
  | .anotherStationStart => Sys2Proof.Machine.execAnotherStationStart s
  | .attemptAbandoned byStart => Sys2Proof.Machine.execAttemptAbandoned byStart s
  | .replyDelivered => Sys2Proof.Machine.execReplyDelivered s
  | .referenceMonitorAbsent => Sys2Proof.Machine.execReferenceMonitorAbsent s

end Sys2Proof.Machine
end

