-- ==== Sys2Proof/Safety.lean ====
section
/-! DEFINITION. What counts as a safe run, in the terms the statements use: that a step answers, when a command's event can occur, and the
invariants of the records, the Cause List and the outbound queue. -/

namespace Sys2Proof

/-! ### The commands and users of accesses (R183) -/

/-- The command of the access of a waiting request. -/
def Access.command : Access → Instr
  | .charge u n => .charge u n
  | .credit u n => .credit u n
  | .userLoad u soft hard live => .userLoad u soft hard live
  | .userLimits u soft hard => .userLimits u soft hard
  | .userFreeze u => .userFreeze u
  | .userThaw u => .userThaw u
  | .userRetire u => .userRetire u
  | .userQuery u => .userQuery u
  | .userResync u => .userResync u
  | .userWatch u => .userWatch u
  | .userUnwatch u => .userUnwatch u
  | .hold u e n => .hold u e n
  | .restoreBegin u e n => .restoreBegin u e n
  | .restoreProgress h k => .restoreProgress h k
  | .restoreEnd h => .restoreEnd h

/-- The rise of LSEL after these samples of LDI (R180). -/
def Instr.clocked (bits : List Bool) : Instr := .linkTransactionOther bits.length (Machine.numberOfBits bits)

/-- The user number an access names; none for the two that name a job's handle. -/
def Access.user : Access → Option Nat
  | .charge u _ => some u
  | .credit u _ => some u
  | .userLoad u _ _ _ => some u
  | .userLimits u _ _ => some u
  | .userFreeze u => some u
  | .userThaw u => some u
  | .userRetire u => some u
  | .userQuery u => some u
  | .userResync u => some u
  | .userWatch u => some u
  | .userUnwatch u => some u
  | .hold u _ _ => some u
  | .restoreBegin u _ _ => some u
  | .restoreProgress _ _ => none
  | .restoreEnd _ => none

/-! ### CONFIGURE (R188) -/

/-- The sixteen fields in their ranges, and the three regions within the Record Store (10.4, R188). -/
def Settings.acceptable (c : Settings) : Prop :=
  (1 ≤ c.frameLength ∧ c.frameLength ≤ 60) ∧ (c.lineRate = 1 ∨ c.lineRate = 2 ∨ c.lineRate = 4) ∧ c.heldWeight ≤ 8 ∧
  c.grace ≤ 1048575 ∧ (1 ≤ c.reportStep ∧ c.reportStep ≤ 65535) ∧ (1 ≤ c.digestBatch ∧ c.digestBatch ≤ 255) ∧ c.digestGap ≤ 255 ∧
  (2 ≤ c.goneAge ∧ c.goneAge ≤ 255) ∧ (1 ≤ c.askLimit ∧ c.askLimit ≤ 255) ∧ (1 ≤ c.closeLimit ∧ c.closeLimit ≤ 255) ∧
  (1 ≤ c.idleLimit ∧ c.idleLimit ≤ 255) ∧ (1 ≤ c.capacity ∧ c.capacity ≤ 65535) ∧ (1 ≤ c.windowLimit ∧ c.windowLimit ≤ 65535) ∧
  (64 ≤ c.userRecords ∧ c.userRecords ≤ 6144) ∧ (256 ≤ c.holdRecords ∧ c.holdRecords ≤ 8192) ∧
  (64 ≤ c.dupEntries ∧ c.dupEntries ≤ 1024) ∧ c.userRecords * 16 + c.holdRecords * 2 + c.dupEntries * 2 ≤ 98304

end Sys2Proof

namespace Sys2Proof.Machine

/-! ### Steps -/

/-- A step answers a next state: no fault, no refusal. -/
def State.steps (s : State) : Prop := ∃ t, step s = .next t

/-- The state that commands leave, one after another; a command that did not answer would leave the state as it was. -/
def State.run (cs : List Instr) (s : State) : State :=
  cs.foldl (fun t c => match exec c t with
    | .next u => u
    | .fault _ => t
    | .refused _ => t) s

/-- An invariant that every step keeps. -/
def Kept (inv : State → Prop) : Prop := ∀ s t : State, inv s → step s = .next t → inv t

/-! ### When a command's event can occur

`s.settle` is `s` with what earlier events left owed made (log 6); on a state that owes nothing it is `s` itself. -/

/-- The access of the waiting local request `a` can be served: it is the oldest client of class 1 and the request in progress (R14). -/
def State.served (a : Access) (s : State) : Prop := s.settle.serves a = true

/-- The state in which the access of the waiting request is made: the request no longer waits at the arbiter. -/
def State.granted (s : State) : State := { s.settle with class1 := s.settle.class1.tail }

/-- The state `t` with the reply of the request in progress pending, and no request in progress (R16, R183). -/
def State.replied (a : Access) (mark : Bool) (status : Status) (body : ReplyBody) (t : State) : State :=
  { t with
    link := { t.link with inProgress := none, reply := some { status := status, code := Access.code a, mark := mark, body := body } } }

/-- The rise of LSEL is judged: RESET is high, and the transaction is none that a reset abandoned (R191). -/
def State.hears (s : State) : Prop := s.resetLow = false ∧ s.ignored = false

/-- A transaction that carries a request can end with its taking: its rise of LSEL is judged, and no request was in progress when it
began (R182). -/
def State.listens (s : State) : Prop := s.hears ∧ s.link.start.requestAtStart = false

/-- The same on a RUNNING station (R186). -/
def State.takesRequests (s : State) : Prop := s.listens ∧ s.link.running = true

/-- The state at the rise of LSEL, the transaction over and any reply it shifted out delivered (R181, R182). -/
def State.afterTransaction (s : State) : State := { s with link := s.link.start.deliver.finish }

/-- The state in which a request taken at once is handled. -/
def State.atTaking (s : State) : State := s.afterTransaction.settle

/-- A class 3 step can be served (R14). -/
def State.servesClass3 (s : State) : Prop := s.settle.freeForClass3 = true

/-- A receipt can be made: the notice stands available at the head of the receive queue (R62). -/
def State.receives (sender : Station) (n : Notice) (rest : List RxNotice) (s : State) : Prop :=
  s.settle.recv = { sender := sender, notice := n, available := true } :: rest

/-- The state in which a receipt is handled: the notice has left the queue. -/
def State.withRecv (rest : List RxNotice) (s : State) : State := { s.settle with recv := rest }

/-! ### The commands of the requests (R202) -/

/-- The command by which a transaction carrying a request ends. -/
def Request.command : Request → Instr
  | .nop => .nop
  | .configure c => .configure c
  | .restart => .restart
  | .stationQuery => .stationQuery
  | .readCause => .readCause
  | .timebaseRetry => .timebaseRetry
  | .access a => .localRequestTaken a
  | .peerQuery st => .peerQuery st
  | .peerDrop st => .peerDrop st
  | .digestHold => .digestHold
  | .digestResume => .digestResume
  | .snapTake => .snapTake
  | .snapReady e => .snapReady e
  | .snapQuery e m => .snapQuery e m
  | .snapExpire e d => .snapExpire e d
  | .dupExtent e t n => .dupExtent e t n
  | .dupEnd e => .dupEnd e
  | .dupHalt => .dupHalt
  | .windowOpen => .windowOpen
  | .windowClose => .windowClose
  | .grantTake => .grantTake
  | .grantDone h f => .grantDone h f
  | .dupQuery => .dupQuery

/-! ### Power-on values (R23, R43, R67, R92, R115, R131, R147, R171, R178, R191, R200) -/

/-- Every block at its power-on value; the inputs of the board and the queue of commands are left open. -/
def State.atPowerOnValues (s : State) : Prop :=
  s.cfg = none ∧ s.link = { running := false, reply := none, inProgress := none, txn := none } ∧
  s.users = [] ∧ s.watch = [] ∧ s.scan = { running := false, cursor := none, owed := 0 } ∧ s.class1 = [] ∧
  s.finalWaiting = [] ∧ s.freeOwed = [] ∧ s.dueOwed = [] ∧
  s.digest.cursor = none ∧ s.digest.batch = 0 ∧ s.digest.held = false ∧ s.digest.quiet = 0 ∧ s.digest.round = 0 ∧
  s.line = { state := .detached, rx := .noFrame, sendBits := [] } ∧ s.out = { queue := [], successor := none } ∧ s.recv = [] ∧
  s.peers = List.replicate 16 { state := .absent, framesSince := 255, latest := none, backlog := none, shareAge := 255 } ∧
  s.ownFrame = false ∧ s.peerTotal = 0 ∧ s.cat = [] ∧ s.latest = none ∧ s.holds = [] ∧ s.sweep = .idle ∧
  s.jobs = List.replicate 8 { gen := 0, job := none } ∧
  s.dup = { queue := [], grants := List.replicate 8 { gen := 0, grant := none }, window := none, night := 0
            share := 0, frameBudget := 0, remaining := 0, debt := 0 } ∧
  s.tb.source = .unclocked ∧ s.tb.switchBack = false ∧ s.tb.timer = 0 ∧ s.tb.frame = 0 ∧ s.causes = []

/-! ### The Cause List (R193) -/

/-- At most 32 records, no two with the same kind and subject, every MIXED record with subject SEVERAL (R193, R197). -/
def CausesLawful (l : List CauseRec) : Prop :=
  l.length ≤ Config.causeSlots ∧ (l.map fun r => (r.kind, r.subject)).Nodup ∧ ∀ r ∈ l, r.kind = .mixed → r.subject = .several

/-- The Cause List is lawful. -/
def State.causesLawful (s : State) : Prop := CausesLawful s.causes

/-! ### User records (R1, R3, R4, R10) -/

/-- UNDER has an estimate at most soft, GRACE and LAPSED one above it; FROZEN and RETIRING are exempt (R10). -/
def UserRec.stateLawful (w : Nat) (u : UserRec) : Prop :=
  match u.state with
  | .under => estimate w u ≤ u.soft
  | .grace _ => u.soft < estimate w u
  | .lapsed => u.soft < estimate w u
  | .frozen => True
  | .retiring => True

/-- A record keeps soft ≤ hard (R4), the law of its state (R10) and at most 4 remote entries (R3). -/
def UserRec.lawful (w : Nat) (u : UserRec) : Prop := u.soft ≤ u.hard ∧ u.stateLawful w ∧ u.remote.length ≤ Config.remoteSlots

/-- The records stand in ascending order of user number, each lawful (R1); before CONFIGURE there is none, and no local
request waits (R23, R186). -/
def State.usersLawful (s : State) : Prop :=
  (s.users.map UserRec.user).Pairwise (· < ·) ∧ (∀ u ∈ s.users, u.lawful s.settings.heldWeight) ∧
    (s.link.running = false → s.users = [] ∧ Client.request ∉ s.class1)

/-! ### The queues of notices (R59, R62) -/

/-- At most 8 notices and at most 4 received ones (R59, R62). -/
def State.queuesLawful (s : State) : Prop := s.out.queue.length ≤ Config.outboundSlots ∧ s.recv.length ≤ Config.receiveSlots

/-- What a queued notice may stand for once only (R59): a user's USAGE, the SHARE, the PRESENCE; an epoch notice is under no such bound. -/
inductive NoticeKey where
  | usage (user : Nat)
  | share
  | presence
deriving DecidableEq, Repr

/-- The key of a notice (R59). -/
def Notice.key : Notice → Option NoticeKey
  | .usage user _ => some (.usage user)
  | .share _ => some .share
  | .presence _ => some .presence
  | .epochPropose _ => none
  | .epochReady _ => none
  | .epochLatest _ => none

/-- The outbound queue within all its bounds: 8 notices in order of priority, 4 USAGE, one for a user, one SHARE and one PRESENCE (R59). -/
def State.outboundLawful (s : State) : Prop :=
  s.out.queue.length ≤ Config.outboundSlots ∧ usageCount s.out.queue ≤ Config.usageSlots ∧
  (s.out.queue.filterMap fun q => q.notice.key).Nodup ∧ (s.out.queue.map fun q => q.notice.priority).Pairwise (· ≤ ·)

/-- One notice is in transmission while the station sends, and none else (R49); a successor is that notice's (R60). -/
def State.sendingLawful (s : State) : Prop :=
  (s.out.queue.filter fun q => q.sending).length = (if s.line.state = .sending then 1 else 0) ∧
  ∀ x, s.out.successor = some x → ∃ q ∈ s.out.queue, q.sending = true ∧ q.notice.key = x.notice.key

/-- A frame is received in BUSY alone (R63); a notice taken and not yet available stands in the slot A of its frame (R53, R62); before
CONFIGURE the line is DETACHED (R63, R67). -/
def State.lineLawful (s : State) : Prop :=
  (s.line.state ≠ .busy .frame → s.line.rx = .noFrame) ∧ (∀ r ∈ s.recv, r.available = false → s.line.rx = .judged (some .slotA)) ∧
  (s.link.running = false → s.line.state = .detached)

/-- The notices of both directions (R49, R53, R59, R60, R62, R63). -/
def State.noticesLawful (s : State) : Prop := s.outboundLawful ∧ s.sendingLawful ∧ s.lineLawful

/-! ### The catalogue and the ledgers (R95, 00 section 2.4) -/

/-- The catalogue holds at most 64 entries, each newer than every entry before it, none newer than the latest known epoch, and at most one in
ASKED, which is then of the latest (R94, R95). -/
def State.catalogueLawful (s : State) : Prop :=
  s.cat.length ≤ Config.catalogueSlots ∧ s.cat.Pairwise (fun a b => newer b.epoch a.epoch = true) ∧
  (s.cat.filter fun c => decide (c.state = .asked)).length ≤ 1 ∧
  ∀ c ∈ s.cat, ∃ l, s.latest = some l ∧ (l - c.epoch).toNat ≤ Config.span ∧ (c.state = .asked → c.epoch = l)

/-- The units of the hold records that meet `p`. -/
def holdSum (p : Hold → Bool) (l : List Hold) : Nat := ((l.filter p).map Hold.units).sum

/-- The ACTIVE jobs (R133). -/
def State.activeJobs (s : State) : List Job := s.jobs.filterMap JobSlot.job

/-- Held space agrees with the hold records: for each user, and for each epoch in total and in number; each record is of a present user and
a present epoch, and of at least 1 AU (R118, R120, R127, 00 section 2.4). An ASKED epoch has none (R119). -/
def State.holdsLawful (s : State) : Prop :=
  (s.holds.map fun h => (h.user, h.epoch)).Nodup ∧
  (∀ h ∈ s.holds, 0 < h.units ∧ (∃ u ∈ s.users, u.user = h.user) ∧ ∃ c ∈ s.cat, c.epoch = h.epoch) ∧
  (∀ u ∈ s.users, u.held = holdSum (fun h => h.user == u.user) s.holds) ∧
  ∀ c ∈ s.cat, c.heldTotal = holdSum (fun h => h.epoch == c.epoch) s.holds ∧
    c.holdCount = (s.holds.filter fun h => h.epoch == c.epoch).length ∧ (c.state = .asked → c.holdCount = 0)

/-- Reserved space and pins agree with the ACTIVE jobs; an unmoved reservation is of a present user, and a job of a present epoch (R136, R139,
R140, 00 section 2.4). A RETIRING user holds and reserves nothing (R34); an epoch that is ASKED or EXPIRING is not pinned (R122, R135). -/
def State.jobsLawful (s : State) : Prop :=
  s.jobs.length = 8 ∧
  (∀ u ∈ s.users, u.reserved = ((s.activeJobs.filter fun j => j.user == u.user).map Job.remaining).sum ∧
    (u.state = .retiring → u.held = 0 ∧ u.reserved = 0)) ∧
  (∀ j ∈ s.activeJobs, (0 < j.remaining → ∃ u ∈ s.users, u.user = j.user) ∧ ∃ c ∈ s.cat, c.epoch = j.epoch) ∧
  ∀ c ∈ s.cat, c.pins = (s.activeJobs.filter fun j => j.epoch == c.epoch).length ∧ (c.state = .asked ∨ c.state = .expiring → c.pins = 0)

/-- An expiry sweep has its EXPIRING entry (R124, R129). -/
def State.sweepLawful (s : State) : Prop :=
  ∀ (e : Epoch) (swept : Nat) (waiting : Bool), s.sweep = .expiry e swept waiting → ∃ c ∈ s.cat, c.epoch = e ∧ c.state = .expiring

/-- The catalogue in its order, and held space, reserved space and pins in agreement with the records they sum (00 section 2.4); users stand
in ascending order (R1). -/
def State.ledgersLawful (s : State) : Prop :=
  (s.users.map UserRec.user).Pairwise (· < ·) ∧ s.catalogueLawful ∧ s.holdsLawful ∧ s.jobsLawful ∧ s.sweepLawful

/-! ### The configured sizes (R1, R117, R148, R164) -/

/-- The units of an extent at most 4,096 (R151). -/
def DupWork.small (w : DupWork) : Bool := decide (w.units ≤ Config.maxExtent)

/-- The three regions within their configured sizes, an unconfigured part having none (R1, R117, R148); every extent of at most 4,096 AU, and
so a debt of at most 4,095 (R151, R164). -/
def State.sizesLawful (s : State) : Prop :=
  (s.link.running = false → s.cfg = none) ∧ s.users.length ≤ s.settings.userRecords ∧ s.holds.length ≤ s.settings.holdRecords ∧
  s.dup.queue.length + s.dup.inFlight ≤ s.settings.dupEntries ∧ (∀ q ∈ s.dup.queue, q.work.small = true) ∧
  (∀ g ∈ s.dup.grants.filterMap GrantSlot.grant, g.work.small = true) ∧ s.dup.debt < Config.maxExtent

/-! ### The fixed tables (R68, R133, R162) -/

/-- 16 peer entries, 8 job slots, 8 grant slots, and at most 4 users watched (R68, R133, R162, R21). -/
def State.tablesLawful (s : State) : Prop :=
  s.peers.length = 16 ∧ s.jobs.length = 8 ∧ s.dup.grants.length = 8 ∧ s.watch.length ≤ Config.watchSlots

end Sys2Proof.Machine
end

