-- ==== Sys2Proof/Certificates/Slice0/Obligations.lean ====
section
/-! DEFINITION. The statements for the provers. A command's result is stated as the whole next state, so what the command leaves unchanged is
part of the statement. `s.settle` is `s` with what earlier events owed made (log 6); `s.granted`, `s.atTaking` and `s.withRecv` are that
state with the client, the transaction or the notice gone (Safety.lean). -/

open Sys2Proof Sys2Proof.Machine

/-! ### Steps -/

/-- The block's step takes the command at the front of its queue; with an empty queue it idles (the model's choice, log 4). -/
def Obligations.StepRunsFrontCommand : Prop :=
  (∀ (c : Instr) (rest : List Instr) (s : State), step { s with pending := c :: rest } = exec c { s with pending := rest }) ∧
  ∀ s : State, step { s with pending := [] } = .next { s with pending := [] }

/-- Every command answers a next state, in every state, and changes nothing in the queue of commands (log 3, log 4). -/
def Obligations.EveryCommandAnswersAndLeavesTheQueue : Prop :=
  ∀ (c : Instr) (s : State), ∃ t, exec c s = .next t ∧ t.pending = s.pending

/-- What earlier events left owed (the model's, log 6): nothing on a state that owes nothing; else what the follow-on rows themselves do, one
after another in the model's order: the freeings, the reports due, the stretched notice, the peers in ascending order, the ask timer, the
close timers in catalogue order, the idle limits in ascending slot order, the window, and last the reports due that an abandonment or a
closing left (log 7, log 8). -/
def Obligations.WhatIsOwedIsWhatItsRowsDo : Prop :=
  (∀ s : State, s.freeOwed = [] → s.dueOwed = [] → (∀ sender n, s.line.rx = .stretching sender n → 4 ≤ s.recv.length) →
     (∀ st : Station, st ≠ s.station → (s.peer st).state = .present → (s.peer st).framesSince < s.settings.goneAge) →
     (∀ c ∈ s.cat, c.state = .asked ∨ c.state = .ready → c.timer ≠ some 0) →
     (∀ (i : Fin 8) (j : Job), (s.jobSlot i).job = some j → j.releaseWaiting = false → j.idle < s.settings.idleLimit) →
     s.dup.window ≠ some 0 → s.settle = s) ∧
  (∀ s : State,
     let d := s.run (s.freeOwed.map .retiringRecordFreed ++ s.dueOwed.map .reportDueAfterLoss ++ [.stretchEntryFreed] ++
       (List.finRange 16).map .peerGoneAge ++ [.askTimerExpiry])
     let f := d.run ((d.cat.map fun c => .closeTimerExpiry c.epoch) ++ (List.finRange 8).map .idleLimitReached ++ [.windowLimitExpiry])
     s.settle = f.run (f.dueOwed.map .reportDueAfterLoss))

/-! ### Power and RESET -/

/-- Power-on and the RESET pin put every block at its power-on value (R191), whatever the state; the reference monitor shows the input. At
the end of power-on and at a rise of RESET the straps become the station number, and nothing else changes (R187); with RESET high there is
no such rise, and nothing changes (log 3). The model's own: POWER_ON leaves the reset in progress until RESET_PIN_RELEASE, and the RESET pin
keeps what the monitor shows (log 29). A transaction in progress is abandoned: its rise of LSEL will not be judged (R191, log 40). -/
def Obligations.PowerOnResetAndStrapsFollowTheirRules : Prop :=
  (∀ s : State,
     (∀ refclk : Bool, ∃ t, exec (.powerOn refclk) s = .next t ∧
       t.atPowerOnValues ∧ t.resetLow = true ∧ t.tb.refPresent = refclk ∧ t.ignored = (s.ignored || s.link.txn.isSome) ∧
       t.pending = s.pending) ∧
     (∃ t, exec .resetPinAssert s = .next t ∧
       t.atPowerOnValues ∧ t.resetLow = true ∧ t.tb.refPresent = s.tb.refPresent ∧ t.ignored = (s.ignored || s.link.txn.isSome) ∧
       t.pending = s.pending)) ∧
  (∀ (s : State) (straps : Station),
     (s.resetLow = true → exec (.resetPinRelease straps) s = .next { s with station := straps, resetLow := false }) ∧
     (s.resetLow = false → exec (.resetPinRelease straps) s = .next s))

/-! ### Transactions on the Local Link -/

/-- The fall of LSEL chooses what the transaction shifts out, and the eighth clock edge delivers a reply being shifted out (R181). A fall of
LSEL while RESET is low begins no transaction, and LSEL is then low for one that is not judged (R191; the flag is the model's, log 40). LDO
carries the reply chosen at the fall of LSEL and then zeros, or the byte "none" and then zeros; zeros while RESET is low; each byte most
significant bit first (R181, R180, R191). -/
def Obligations.RepliesAreChosenShiftedAndDelivered : Prop :=
  (∀ s : State, s.hears →
     (s.link.txn = none →
       exec .transactionStart s = .next { s with link := { s.link with
         txn := some { out := s.link.reply, eighthEdge := false, requestAtStart := s.link.inProgress.isSome } } }) ∧
     (∀ x : Txn, s.link.txn = some x → x.eighthEdge = false →
       exec .replyDelivered s = .next { s with link := { s.link with
         reply := if x.out.isSome then none else s.link.reply
         txn := some { x with eighthEdge := true } } }) ∧
     (∀ x : Txn, s.link.txn = some x → x.eighthEdge = true → exec .replyDelivered s = .next s)) ∧
  (∀ s : State,
     (s.resetLow = true → s.ignored = false → exec .transactionStart s = .next { s with ignored := true }) ∧
     (s.ignored = true → exec .transactionStart s = .next s)) ∧
  (∀ s : State,
     (∀ (x : Txn) (r : Reply), s.resetLow = false → s.link.txn = some x → x.out = some r →
       (∀ i : Nat, i < r.bytes.length → some (s.ldoByte i) = r.bytes[i]?) ∧ ∀ i : Nat, r.bytes.length ≤ i → s.ldoByte i = 0) ∧
     (∀ x : Txn, s.resetLow = false → s.link.txn = some x → x.out = none →
       s.ldoByte 0 = 255 ∧ ∀ i : Nat, 0 < i → s.ldoByte i = 0) ∧
     (s.resetLow = true → ∀ i : Nat, s.ldoByte i = 0) ∧
     ∀ i k : Nat, k < 8 → s.ldoBit (8 * i + k) = (s.ldoByte i).getLsbD (7 - k))

/-- The samples of LDI read back, from the number they spell, as their whole bytes, most significant bit first, and whether a remainder
follows (R180). A request record read
back from its bytes is the request, whatever padding follows (R180, R202). A notice sampled undisturbed passes its check, is well-formed and
reads back as itself (R47, R48, R201). -/
def Obligations.RequestRecordsAndNoticesReadBack : Prop :=
  (∀ bits : List Bool, bitsOf bits.length (numberOfBits bits) = bits) ∧
  (∀ (bytes : List Byte) (tail : List Bool), tail.length < 8 → octets (shiftedBits bytes ++ tail) = (bytes, !tail.isEmpty)) ∧
  (∀ (r : Request) (padding : List Byte), r.wf = true → parseRecord (r.bytes ++ padding) = .request r) ∧
  (∀ (st : Station) (n : Notice), n.wf = true →
     checkPasses (frameOf st n) = true ∧ noticeWellFormed (frameOf st n) n = true ∧ (frameOf st n).wf = true ∧
     readNotice (frameOf st n).kind (frameOf st n).payload = some n)

/-- A transaction whose bytes spell one whole request has the effect of that request's command (R182, R183; that the row takes it so is the
model's choice, log 12). A transaction that completes no request is aborted, and the rest are judged: an unknown code, an enumerated byte
outside its codes, and a partial trailing byte are BAD_REQUEST (R182). What completes while a request was in progress is
OverrunsAreDiscardedAndMarked's. The rise of LSEL that ends a transaction which RESET abandoned, or while RESET is low, is not judged (R191;
the flag is log 40). -/
def Obligations.TransactionBytesAreJudgedByTheTests : Prop :=
  (∀ (s : State) (r : Request) (padding : List Byte), r.wf = true →
     exec (.clocked (shiftedBits (r.bytes ++ padding))) s = exec r.command s) ∧
  (∀ s : State, s.resetLow = true ∨ s.ignored = true →
     (∀ edges ldi : Nat, exec (.linkTransactionOther edges ldi) s = .next { s with ignored := false }) ∧
     ∀ r : Request, exec r.command s = .next { s with ignored := false }) ∧
  (∀ (s : State) (bytes : List Byte) (tail : List Bool), s.hears → tail.length < 8 →
     let ends := exec (.clocked (shiftedBits bytes ++ tail)) s
     (bytes = [] → ends = .next { s with link := { s.link with txn := none } }) ∧
     (parseRecord bytes = .short → ends = .next s.afterTransaction) ∧
     (∀ code : Byte, s.listens → parseRecord bytes = .malformed code →
       ends = .next (State.answer .badRequest code false .empty s.afterTransaction)) ∧
     (∀ r : Request, s.listens → parseRecord bytes = .request r → tail ≠ [] →
       ends = .next (State.answer .badRequest r.code false .empty s.afterTransaction)))

/-- A request that completes in a transaction which began while another was in progress is discarded: the overrun mark is set on the reply of
the one in progress, and nothing else changes. So for a request other than NOP, for an unknown code or an enumerated byte outside its codes,
and for a request or a NOP that a partial byte follows (R182, R184). -/
def Obligations.OverrunsAreDiscardedAndMarked : Prop :=
  ∀ (s : State) (x : Txn), s.hears → s.link.txn = some x → x.requestAtStart = true →
    let discarded := fun c : Instr =>
      ∃ t, exec c s = .next t ∧ t = { s with link := t.link } ∧ t.link.running = s.link.running ∧ t.link.txn = none ∧
        t.link.inProgress = s.link.inProgress.map (fun p => { p with mark := true }) ∧
        (s.link.inProgress = none → t.link.reply = s.link.deliver.reply.map fun q => { q with mark := true }) ∧
        (s.link.inProgress.isSome = true → t.link.reply = s.link.deliver.reply)
    (∀ r : Request, r ≠ .nop → discarded r.command) ∧
    ∀ (bytes : List Byte) (tail : List Bool), tail.length < 8 →
      (∀ code : Byte, parseRecord bytes = .malformed code → discarded (.clocked (shiftedBits bytes ++ tail))) ∧
      (∀ r : Request, parseRecord bytes = .request r → tail ≠ [] ∨ r ≠ .nop →
        discarded (.clocked (shiftedBits bytes ++ tail)))

/-- NOP collects what its transaction shifts out and forms no reply, in every station state, whether or not a request is in progress (R185).
A known request on an UNCONFIGURED station, other than CONFIGURE, STATION-QUERY, READ-CAUSE and NOP, is answered NOT_CONFIGURED with its
code and no payload, and changes nothing else (R182, R186). -/
def Obligations.NopAndUnconfiguredStationsTakeNothing : Prop :=
  (∀ s : State, s.hears → exec .nop s = .next s.afterTransaction) ∧
  (∀ (s : State) (r : Request), s.listens → s.link.running = false → r ≠ .nop → (∀ c, r ≠ .configure c) → r ≠ .stationQuery →
     r ≠ .readCause → exec r.command s = .next (State.answer .notConfigured r.code false .empty s.afterTransaction))

/-- A Quota Table request is taken: it is in progress, with its overrun mark clear, and waits last in class 1 (R183, R14). -/
def Obligations.TableRequestsWaitInClass1 : Prop :=
  ∀ (s : State) (a : Access), s.takesRequests →
    exec (.localRequestTaken a) s = .next { s.atTaking with
      link := { s.atTaking.link with inProgress := some { code := Access.code a, mark := false, work := .access a } }
      class1 := s.atTaking.class1 ++ [.request] }

/-! ### CONFIGURE, RESTART, STATION-QUERY, READ-CAUSE, TIMEBASE-RETRY -/

/-- A CONFIGURE with every field in range and a sizing sum of at most 98,304 is accepted on an UNCONFIGURED station: the settings stand, the
station runs, attachment begins, the frame timer starts at 0 on the source the monitor allows, and an absent reference raises
TIMEBASE_FALLBACK (R188, R189, R178, R63). Any other CONFIGURE is refused with no change but its reply: BAD_CONFIG with the index of the
first field out of range, or with 17 for the sizing check; WRONG_STATE on a RUNNING station (R188, R186). -/
def Obligations.ConfigureStartsTheStationOrIsRefused : Prop :=
  (∀ (s : State) (c : Settings), s.listens → s.link.running = false → c.acceptable →
     let started : State := { s.atTaking with
       cfg := some c
       link := { s.atTaking.link with running := true }
       digest := { s.atTaking.digest with gapTimer := c.digestGap }
       line := { state := .busy .attachment, rx := .noFrame, sendBits := [] }
       tb := { s.atTaking.tb with source := if s.tb.refPresent then .reference else .internal, timer := 0 } }
     let sum := c.userRecords * 16 + c.holdRecords * 2 + c.dupEntries * 2
     exec (.configure c) s = .next (State.answer .ok 1 false
       (.configure s.station 0 sum (98304 - sum) (some (if s.tb.refPresent then .reference else .internal)))
       (if s.tb.refPresent then started
        else started.raise .timebaseFallback (.station s.station) (some (.fallback .absentAtStart))))) ∧
  (∀ (s : State) (c : Settings), s.listens →
     let sum := c.userRecords * 16 + c.holdRecords * 2 + c.dupEntries * 2
     (∀ i : Nat, s.link.running = false → i < 16 → (rangeChecks c)[i]? = some false →
       (∀ j : Nat, j < i → (rangeChecks c)[j]? = some true) →
       exec (.configure c) s = .next (State.answer .badConfig 1 false (.configure s.station (i + 1) sum 0 none) s.atTaking)) ∧
     (s.link.running = false → (rangeChecks c).all (fun ok => ok) = true → 98304 < sum →
       exec (.configure c) s = .next (State.answer .badConfig 1 false (.configure s.station 17 sum 0 none) s.atTaking)) ∧
     (s.link.running = true →
       exec (.configure c) s = .next (State.answer .wrongState 1 false (.configure s.station 0 sum 0 none) s.atTaking)) ∧
     (c.acceptable ↔ (rangeChecks c).all (fun ok => ok) = true ∧ sum ≤ 98304))

/-- The requests that only read answer from the state as it stands and change nothing but the pending reply: STATION-QUERY in both station
states (R192), PEER-QUERY of another station (R91), SNAP-QUERY (R114) and DUP-QUERY (R169) on a RUNNING one. STATION-QUERY counts the unused
own entry as ABSENT (the model's reading, log 34). -/
def Obligations.QueriesOnlyAnswer : Prop :=
  ∀ s : State, s.listens →
    (let t := s.atTaking
     exec .stationQuery s = .next (State.answer .ok 3 false
       (.stationQuery t.station t.link.running t.line.state t.tb.source t.tb.frame t.latest
         (t.peers.filter fun p => decide (p.state = .absent)).length (t.peers.filter fun p => decide (p.state = .present)).length
         (t.peers.filter fun p => decide (p.state = .gone)).length t.freeCounts) t)) ∧
    (s.link.running = true → ∀ st : Station, st ≠ s.station →
      let p := s.atTaking.peer st
      exec (.peerQuery st.val) s = .next (State.answer .ok 32 false
        (.peerQuery p
          (decide (p.state = .present ∧ min 255 (p.framesSince + 1) < s.settings.goneAge ∧ p.shareAge ≤ 1) && p.backlog.isSome)
          (s.atTaking.dropRuns st)) s.atTaking)) ∧
    (s.link.running = true → ∀ (e : Epoch) (mode : SnapMode),
      exec (.snapQuery e mode) s = .next (State.answer (if (s.atTaking.chosenEntry e mode).isSome then .ok else .noSuchEpoch) 50 false
        (.snapQuery s.atTaking.latest s.atTaking.cat.length (s.atTaking.chosenEntry e mode)) s.atTaking)) ∧
    (s.link.running = true →
      let t := s.atTaking
      exec .dupQuery s = .next (State.answer .ok 87 false
        (.dupQuery t.dup.window t.dup.night t.dup.share t.dup.frameBudget t.dup.remaining t.dup.debt t.dup.backlog t.peerTotal
          t.dup.tonight.length (t.dup.queue.length - t.dup.tonight.length) t.dup.inFlight t.freeDups (8 - t.dup.inFlight)
          t.dup.queue.head?) t))

/-- A cause merges into the record of its kind and subject, its count saturating at 255 and its value and frame replaced; without one it is
appended while there are fewer than 32 records; in a full list it merges into the record of its kind with subject SEVERAL, else into the
newest of its kind, which becomes SEVERAL, else into the MIXED record, else into the newest record, which becomes MIXED (R193, R195, R196,
R197, R194). A block raises at the current frame number, and ATTN is asserted while the list is not empty (R195, R198). READ-CAUSE, in both
station states, removes and returns the oldest urgent record, else the oldest, else nothing; the others keep their order (R199). -/
def Obligations.CausesMergeOnRaisingAndAreRead : Prop :=
  (∀ (frame : FrameNo) (c : Cause) (a b : List CauseRec) (r : CauseRec),
     let l := a ++ r :: b
     let matching := fun x : CauseRec => x.kind = c.kind ∧ x.subject = c.subject
     let more := min 255 (r.count + 1)
     let several := a ++ { r with subject := .several, count := more, value := c.value, frame := frame, urgent := c.kind.urgent } :: b
     let mixed := a ++ { kind := .mixed, subject := .several, value := some (.causeKind c.kind), count := more, frame := frame
                         urgent := r.urgent || c.kind.urgent } :: b
     (matching r → (∀ x ∈ a, ¬ matching x) → raiseIn frame c l = a ++ { r with count := more, value := c.value, frame := frame } :: b) ∧
     ((∀ x ∈ l, ¬ matching x) → 32 ≤ l.length →
       (r.kind = c.kind → r.subject = .several → (∀ x ∈ a, ¬(x.kind = c.kind ∧ x.subject = .several)) → raiseIn frame c l = several) ∧
       (r.kind = c.kind → (∀ x ∈ b, x.kind ≠ c.kind) → (∀ x ∈ l, ¬(x.kind = c.kind ∧ x.subject = .several)) →
         raiseIn frame c l = several) ∧
       ((∀ x ∈ l, x.kind ≠ c.kind) → r.kind = .mixed → (∀ x ∈ a, x.kind ≠ .mixed) → raiseIn frame c l = mixed) ∧
       ((∀ x ∈ l, x.kind ≠ c.kind) → (∀ x ∈ l, x.kind ≠ .mixed) → b = [] → raiseIn frame c l = mixed))) ∧
  (∀ (frame : FrameNo) (c : Cause) (l : List CauseRec), (∀ x ∈ l, ¬(x.kind = c.kind ∧ x.subject = c.subject)) → l.length < 32 →
     raiseIn frame c l =
       l ++ [{ kind := c.kind, subject := c.subject, value := c.value, count := 1, frame := frame, urgent := c.kind.urgent }]) ∧
  (∀ (s : State) (kind : CauseKind) (subject : Subject) (value : Option CauseValue),
     s.raise kind subject value =
       { s with causes := raiseIn s.tb.frame { kind := kind, subject := subject, value := value } s.causes } ∧
     (kind.urgent = true ↔ kind = .lineStuck ∨ kind = .addressClash ∨ kind = .timebaseFallback ∨ kind = .catalogueFull) ∧
     (s.attn = true ↔ s.causes ≠ [])) ∧
  (∀ s : State, s.listens →
       (∀ (a b : List CauseRec) (r : CauseRec), s.atTaking.causes = a ++ r :: b → r.urgent = true → (∀ x ∈ a, x.urgent = false) →
         exec .readCause s = .next (State.answer .ok 4 false
           (.readCause (some r) (a ++ b).length ((a ++ b).filter fun x => x.urgent).length) { s.atTaking with causes := a ++ b })) ∧
       (∀ (r : CauseRec) (b : List CauseRec), s.atTaking.causes = r :: b → (∀ x ∈ r :: b, x.urgent = false) →
         exec .readCause s = .next (State.answer .ok 4 false (.readCause (some r) b.length 0) { s.atTaking with causes := b })) ∧
       (s.atTaking.causes = [] → exec .readCause s = .next (State.answer .ok 4 false (.readCause none 0 0) s.atTaking)))

/-- RESTART empties the watch list and the Cause List, resumes and wakes the Digest Sweep, returns every grant, and offers one release for
each ACTIVE job in ascending slot order; with no job ACTIVE it is answered at once, else it stays in progress (R190, R24, R87, R146, R170,
R200). The grants return one after another, the latest granted first: the slot becomes FREE with its generation kept, the epoch's in-flight
count falls, and the entry returns as after a failed send, with its retries kept (GrantsEndAndEntriesReturn states the return, with its
absorption and its queued count); so without absorption the head of the queue holds them in the order of granting. Nothing but the
Duplication Unit and the catalogue is touched (R170, R168). A release of RESTART, when it is the oldest client of class 1: the job of its
generation ends and is counted; after the last release the reply of RESTART is formed (R146, R190). -/
def Obligations.RestartEndsTheSessionAndReturnsGrants : Prop :=
  (∀ s : State, s.takesRequests → (∀ c ∈ s.atTaking.class1, c.ofRestart = false) →
     let r := s.atTaking.returnGrants
     let active := (List.finRange 8).filter fun i => (s.atTaking.jobSlot i).job.isSome
     let ended : State := { r with
       watch := []
       causes := []
       digest := { r.digest with held := false, quiet := 0 }
       class1 := s.atTaking.class1 ++ active.map fun i => .restartRelease i (s.atTaking.jobSlot i).gen }
     (active = [] → exec .restart s = .next { ended with
       link := { s.atTaking.link with
         inProgress := none
         reply := some { status := .ok, code := 2, mark := false, body := .restart 0 s.atTaking.dup.inFlight } } }) ∧
     (active ≠ [] → exec .restart s = .next { ended with
       link := { s.atTaking.link with
         inProgress := some { code := 2, mark := false, work := .restart 0 s.atTaking.dup.inFlight } } })) ∧
  (∀ s : State, s.tablesLawful →
     (∀ i : Fin 8, s.returnGrants.grantSlot i = { gen := (s.grantSlot i).gen, grant := none }) ∧
     s.returnGrants = { s with dup := s.returnGrants.dup, cat := s.returnGrants.cat } ∧
     ∀ l : List (Fin 8 × Grant), (∀ i g, (i, g) ∈ l ↔ (s.grantSlot i).grant = some g) →
       l.Pairwise (fun x y => y.2.order < x.2.order) →
       (s.returnGrants = l.foldl (fun t x => State.returnEntry x.2.work x.2.retries
          { t.modifyWorkEpoch x.2.work (fun c => { c with inFlight := c.inFlight - 1 }) with
            dup := { t.dup with grants := t.dup.grants.set x.1.val { gen := (t.grantSlot x.1).gen, grant := none } } }) s) ∧
       ((∀ x ∈ l, ∀ e token units, x.2.work = .extent e token units → s.dup.queue.any (isExtent e token) = false) →
        l.Pairwise (fun x y => ∀ e token units more, ¬(x.2.work = .extent e token units ∧ y.2.work = .extent e token more)) →
        let parity := if s.dup.window.isSome then s.dup.night.getLsbD 0 else !s.dup.night.getLsbD 0
        s.returnGrants.dup.queue =
          (l.reverse.map fun x => { work := x.2.work, parity := parity, retries := x.2.retries }) ++ s.dup.queue)) ∧
  (∀ (s : State) (i gen : Fin 8) (rest : List Client) (code : Byte) (mark : Bool) (jobs grants : Nat),
       s.settle.class1 = .restartRelease i gen :: rest →
       s.link.inProgress = some { code := code, mark := mark, work := .restart jobs grants } →
       let t : State := { s.settle with class1 := rest }
       let ended := if (t.jobSlot i).gen = gen then (t.jobSlot i).job else none
       let u := match ended with
         | none => t
         | some j => t.endJob i j
       let count := jobs + if ended.isSome then 1 else 0
       (rest.any Client.ofRestart = true → exec .restartRelease s = .next { u with
         link := { s.link with inProgress := some { code := code, mark := mark, work := .restart count grants } } }) ∧
       (rest.any Client.ofRestart = false → exec .restartRelease s = .next { u with
         link := { s.link with
           inProgress := none
           reply := some { status := .ok, code := code, mark := mark, body := .restart count grants } } }))

/-- TIMEBASE-RETRY by the source and the reference monitor; with the reference absent a pending switch-back is withdrawn; before CONFIGURE
it is answered NOT_CONFIGURED (R176). -/
def Obligations.TimebaseRetrySetsSwitchBack : Prop :=
  ∀ s : State, s.listens →
    (s.link.running = false → exec .timebaseRetry s = .next (State.answer .notConfigured 5 false .empty s.afterTransaction)) ∧
    (s.link.running = true → s.tb.source = .reference →
      exec .timebaseRetry s = .next (State.answer .ok 5 false
        (.timebaseRetry .reference s.tb.switchBack s.tb.refPresent s.tb.frame true) s.atTaking)) ∧
    (s.link.running = true → s.tb.source = .internal → s.tb.refPresent = true →
      exec .timebaseRetry s = .next (State.answer .ok 5 false (.timebaseRetry .internal true true s.tb.frame false)
        { s.atTaking with tb := { s.tb with switchBack := true } })) ∧
    (s.link.running = true → s.tb.source = .internal → s.tb.refPresent = false →
      exec .timebaseRetry s = .next (State.answer .noReference 5 false (.timebaseRetry .internal false false s.tb.frame false)
        { s.atTaking with tb := { s.tb with switchBack := false } }))

/-! ### The estimate, re-evaluation, admission and the report-due check -/

/-- The weighted held space is the ceiling of H × w / 8: 0 at w = 0, H at w = 8, never above H, and at least 1 for any held space under a
nonzero weight (R5). -/
def Obligations.WeightedHeldIsTheCeiling : Prop :=
  ∀ w held : Nat, w ≤ 8 →
    (8 * weightedHeld w held < held * w + 8 ∧ held * w ≤ 8 * weightedHeld w held) ∧
    weightedHeld 0 held = 0 ∧ weightedHeld 8 held = held ∧ weightedHeld w held ≤ held ∧
    (0 < w → 0 < held → 1 ≤ weightedHeld w held) ∧ (held ≤ 268435455 → held * w ≤ 2147483640) ∧
    weightedHeld 4 3001 = 1501 ∧ weightedHeld 1 9 = 2 ∧ weightedHeld 3 80000 = 30000

/-- The own charge, the remote sum and the estimate are three sums that saturate at 268,435,455 (R6). Re-evaluation by the table of R10, for
every state and both sides of the soft limit. It writes the state alone. The outcome of an admission by the record's state and E′ = E + n
(R7); `restore` is RESTORE-BEGIN. -/
def Obligations.EstimateReevaluationAndAdmission : Prop :=
  (∀ (w : Nat) (u : UserRec),
     ownCharge w u = min 268435455 (u.live + u.reserved + weightedHeld w u.held) ∧
     remoteSum u = min 268435455 ((u.remote.map RemoteEntry.units).sum + u.spill) ∧
     estimate w u = min 268435455 (ownCharge w u + remoteSum u) ∧
     (ownCharge w u = 268435455 → estimate w u = 268435455)) ∧
  (∀ (w g : Nat) (u : UserRec),
     (u.state = .under → estimate w u ≤ u.soft → reevaluate w g u = u) ∧
     (u.state = .under → u.soft < estimate w u → reevaluate w g u = { u with state := .grace g }) ∧
     (∀ n : Nat, u.state = .grace n → estimate w u ≤ u.soft → reevaluate w g u = { u with state := .under }) ∧
     (∀ n : Nat, u.state = .grace n → u.soft < estimate w u → reevaluate w g u = u) ∧
     (u.state = .lapsed → estimate w u ≤ u.soft → reevaluate w g u = { u with state := .under }) ∧
     (u.state = .lapsed → u.soft < estimate w u → reevaluate w g u = u) ∧
     (u.state = .frozen → reevaluate w g u = u) ∧ (u.state = .retiring → reevaluate w g u = u)) ∧
  (∀ (w n : Nat) (restore : Bool) (u : UserRec),
     let e := estimate w u + n
     (u.state = .retiring → admission w n restore u = .unknownUser) ∧
     (u.state = .frozen → admission w n restore u = .refusedFrozen) ∧
     (u.state ≠ .retiring → u.state ≠ .frozen → u.hard < e → admission w n restore u = .refusedHard) ∧
     (u.state = .under ∨ (∃ k, u.state = .grace k) → u.soft < e → e ≤ u.hard → admission w n restore u = .okSoft) ∧
     (u.state = .lapsed → u.soft < e → e ≤ u.hard → admission w n restore u = if restore then .okSoft else .refusedLapsed) ∧
     (u.state = .under → e ≤ u.soft → e ≤ u.hard → admission w n restore u = .ok))

/-- The end of an access that changed the record `old` into `changed`: re-evaluation, the WATCH cause of a watched user whose state changed,
and the report-due check when Q changed, which wakes the Digest Sweep (R15, R10, R21, R42, R84). Every other record and every other part of
the state stands. -/
def Obligations.AccessesEndWithReevaluationWatchAndReportCheck : Prop :=
  ∀ (s : State) (old changed : UserRec), old.user = changed.user →
    let w := s.settings.heldWeight
    let q := ownCharge w changed
    let owed := ownCharge w old ≠ q ∧
      (changed.reported + s.settings.reportStep ≤ q ∨ q + s.settings.reportStep ≤ changed.reported ∨ q = 0 ∧ 0 < changed.reported)
    let judged := reevaluate w s.settings.grace changed
    let t := s.commit old changed
    (owed → t.findUser changed.user = (s.findUser changed.user).map (fun _ => { judged with reportDue := true }) ∧ t.digest = { s.digest with quiet := 0 }) ∧
    (¬ owed → t.findUser changed.user = (s.findUser changed.user).map (fun _ => judged) ∧ t.digest = s.digest) ∧
    (∀ n : Nat, n ≠ changed.user → t.findUser n = s.findUser n) ∧ t.users.map UserRec.user = s.users.map UserRec.user ∧
    (old.user ∈ s.watch → old.state.code ≠ judged.state.code →
      t.causes = raiseIn s.tb.frame { kind := .watch, subject := .user old.user, value := some (.userState judged.state) } s.causes) ∧
    (old.user ∉ s.watch ∨ old.state.code = judged.state.code → t.causes = s.causes) ∧
    t = { s with users := t.users, digest := t.digest, causes := t.causes }

/-! ### The requests of chapter 2 -/

/-- CHARGE: an admitted charge adds n to live and ends as every changing access; a refused one changes nothing. The reply carries E′ (R27,
R8, R26). CREDIT: live falls by n, or to 0 with OK_CLAMPED; the reply carries the AU removed (R28). -/
def Obligations.ChargeAndCreditMoveLiveSpace : Prop :=
  (∀ (s : State) (user n : Nat) (u : UserRec), s.served (.charge user n) → user ≠ 0 → n ≠ 0 → s.settle.findActive user = some u →
     let status := admission s.settings.heldWeight n false u
     let mark := s.link.mark
     let t := s.granted.commit u { u with live := u.live + n }
     let e := some (estimate s.settings.heldWeight u + n)
     (status = .ok ∨ status = .okSoft →
       exec (.charge user n) s = .next (t.replied (.charge user n) mark status (.charge (t.userBlock user) e))) ∧
     (status ≠ .ok → status ≠ .okSoft →
       exec (.charge user n) s = .next (s.granted.replied (.charge user n) mark status (.charge (s.granted.userBlock user) e)))) ∧
  (∀ (s : State) (user n : Nat) (u : UserRec), s.served (.credit user n) → user ≠ 0 → n ≠ 0 → n ≤ 268435455 →
     s.settle.findActive user = some u →
     (n ≤ u.live →
       let t := s.granted.commit u { u with live := u.live - n }
       exec (.credit user n) s = .next (t.replied (.credit user n) s.link.mark .ok (.credit (t.userBlock user) n))) ∧
     (u.live < n →
       let t := s.granted.commit u { u with live := 0 }
       exec (.credit user n) s = .next (t.replied (.credit user n) s.link.mark .okClamped (.credit (t.userBlock user) u.live))))

/-- USER-LOAD of a user without a record, with a place free: the record of R30 is inserted in ascending order, UNDER or in GRACE as its live
space stands to its soft limit; report due, and the Digest Sweep woken, when live is above 0. A soft limit above hard is clamped (R29, R30).
The refusals of USER-LOAD, which change no record: EXISTS, BUSY for a RETIRING record, TABLE_FULL (R29). -/
def Obligations.UserLoadCreatesOrRefuses : Prop :=
  (∀ (s : State) (user soft hard live : Nat), s.served (.userLoad user soft hard live) → user ≠ 0 → soft ≤ 268435455 → hard ≤ 268435455 →
     live ≤ 268435455 → s.settle.findUser user = none → s.settle.users.length < s.settings.userRecords →
     let record : UserRec :=
       { user := user, state := if live ≤ min soft hard then .under else .grace s.settings.grace, soft := min soft hard, hard := hard
         live := live, held := 0, reserved := 0, reported := 0, reportDue := decide (0 < live), remote := [], spill := 0 }
     let t : State := { s.granted with
       users := insertUser record s.granted.users
       digest := { s.granted.digest with quiet := if 0 < live then 0 else s.granted.digest.quiet } }
     exec (.userLoad user soft hard live) s = .next (t.replied (.userLoad user soft hard live) s.link.mark
       (if hard < soft then .okClamped else .ok)
       (.user { user := user, state := some record.state, estimate := some live }))) ∧
  (∀ (s : State) (user soft hard live : Nat), s.served (.userLoad user soft hard live) → user ≠ 0 → soft ≤ 268435455 → hard ≤ 268435455 →
     live ≤ 268435455 →
     let absent : UserBlock := { user := user, state := none, estimate := none }
     let refused := fun (status : Status) (a : UserBlock) =>
       exec (.userLoad user soft hard live) s = .next (s.granted.replied (.userLoad user soft hard live) s.link.mark status (.user a))
     (∀ u : UserRec, s.settle.findUser user = some u → u.state = .retiring → refused .busy absent) ∧
     (∀ u : UserRec, s.settle.findUser user = some u → u.state ≠ .retiring → refused .existsAlready (s.granted.userBlock user)) ∧
     (s.settle.findUser user = none → s.settings.userRecords ≤ s.settle.users.length → refused .tableFull absent))

/-- USER-LIMITS replaces both limits, soft clamped to hard, and re-evaluates; USER-RESYNC clears spill, re-evaluates, sets report due and
wakes the Digest Sweep (R31, R39, R84). USER-FREEZE puts the record in FROZEN and tells the former state; USER-THAW takes it out, to UNDER
or LAPSED by the estimate, and is WRONG_STATE on a record that is not FROZEN. Each change of state of a watched user raises WATCH; nothing
else changes (R32, R33, R21). -/
def Obligations.LimitsResyncFreezeAndThaw : Prop :=
  (∀ (s : State) (user soft hard : Nat) (u : UserRec), user ≠ 0 → s.settle.findActive user = some u →
     (s.served (.userLimits user soft hard) → soft ≤ 268435455 → hard ≤ 268435455 →
       let t := s.granted.commit u { u with soft := min soft hard, hard := hard }
       exec (.userLimits user soft hard) s = .next (t.replied (.userLimits user soft hard) s.link.mark
         (if hard < soft then .okClamped else .ok) (.user (t.userBlock user)))) ∧
     (s.served (.userResync user) →
       let c := s.granted.commit u { u with spill := 0 }
       let t : State := { c with
         users := modifyFirst (fun r => r.user == user) (fun r => { r with reportDue := true }) c.users
         digest := { c.digest with quiet := 0 } }
       exec (.userResync user) s = .next (t.replied (.userResync user) s.link.mark .ok (.user (t.userBlock user))))) ∧
  (∀ (s : State) (user : Nat) (u : UserRec), user ≠ 0 → s.settle.findActive user = some u →
     let watched := fun (x : UserState) =>
       if u.state.code ≠ x.code ∧ user ∈ s.granted.watch then
         raiseIn s.tb.frame { kind := .watch, subject := .user user, value := some (.userState x) } s.granted.causes
       else s.granted.causes
     let changed := fun (x : UserState) =>
       ({ s.granted with users := putUser { u with state := x } s.granted.users, causes := watched x } : State)
     let block := fun (x : UserState) => ({ user := user, state := some x, estimate := some (estimate s.settings.heldWeight u) } : UserBlock)
     (s.served (.userFreeze user) →
       exec (.userFreeze user) s =
         .next ((changed .frozen).replied (.userFreeze user) s.link.mark .ok (.userFreeze (block .frozen) (some u.state)))) ∧
     (s.served (.userThaw user) → u.state = .frozen → estimate s.settings.heldWeight u ≤ u.soft →
       exec (.userThaw user) s = .next ((changed .under).replied (.userThaw user) s.link.mark .ok (.user (block .under)))) ∧
     (s.served (.userThaw user) → u.state = .frozen → u.soft < estimate s.settings.heldWeight u →
       exec (.userThaw user) s = .next ((changed .lapsed).replied (.userThaw user) s.link.mark .ok (.user (block .lapsed)))) ∧
     (s.served (.userThaw user) → u.state ≠ .frozen →
       exec (.userThaw user) s = .next (s.granted.replied (.userThaw user) s.link.mark .wrongState (.user (block u.state)))))

/-- USER-RETIRE by the table of R34: NOT_EMPTY; freed within the access, with its watch-list entry, when no final notice is owed or no peer is
PRESENT; else RETIRING with reported 0 and report due clear, its final notice placed, or waiting with report due set (R34, R35, R36, R22).
The placing by the five cases of R35: replaced in place or as a successor, appended, or in place of the newest USAGE that qualifies, which is
DISPLACED (R61); where none qualifies it is not placed. A try places a waiting final notice that can be placed, clears its report due and ends
its waiting (R36). Two readings are the model's: that the final notices already waiting are tried after the new one has displaced a USAGE and
been placed, a failure of one not stopping the next (DEDUCED, log 15), and that another retiring user's final notice, which is never
displaced, is one whose record is RETIRING at that moment, so not that of a USER-RETIRE that frees its record at once (DEDUCED, log 16). -/
def Obligations.RetireFreesOrWaitsForItsFinalNotice : Prop :=
  (∀ (s : State) (user : Nat) (u : UserRec), s.served (.userRetire user) → user ≠ 0 → s.settle.findActive user = some u →
    let a : Access := .userRetire user
    let queued := s.granted.out.queue.any fun q => q.notice.isUsageOf user
    let freed : UserBlock := { user := user, state := none, estimate := some 0 }
    let without := fun (t : State) =>
      ({ t with users := t.users.eraseP (fun r => r.user == user), watch := t.watch.filter (fun w => w != user) } : State)
    let placing := fun t : State =>
      if t.out.has (Notice.isUsageOf user) || usageRoom t.out.queue then t.placeFinal user
      else (t.placeFinal user).map State.placeWaiting
    let retiring := s.granted.putState { u with reported := 0, reportDue := false } .retiring
    (0 < u.live ∨ 0 < u.held ∨ 0 < u.reserved →
      exec (.userRetire user) s = .next (s.granted.replied a s.link.mark .notEmpty (.user (s.granted.userBlock user)))) ∧
    (u.live = 0 → u.held = 0 → u.reserved = 0 → u.reported = 0 → queued = false →
      exec (.userRetire user) s = .next ((without s.granted).replied a s.link.mark .ok (.user freed))) ∧
    (∀ placed : State, u.live = 0 → u.held = 0 → u.reserved = 0 → 0 < u.reported ∨ queued = true → s.granted.anyPresent = false →
      placing s.granted = some placed →
      exec (.userRetire user) s = .next ((without placed).replied a s.link.mark .ok (.user freed))) ∧
    (u.live = 0 → u.held = 0 → u.reserved = 0 → 0 < u.reported ∨ queued = true → s.granted.anyPresent = false →
      placing s.granted = none →
      exec (.userRetire user) s = .next ((without s.granted).replied a s.link.mark .ok (.user freed))) ∧
    (∀ placed : State, u.live = 0 → u.held = 0 → u.reserved = 0 → 0 < u.reported ∨ queued = true → s.granted.anyPresent = true →
      placing retiring = some placed →
      exec (.userRetire user) s = .next (placed.replied a s.link.mark .ok (.user (placed.userBlock user)))) ∧
    (u.live = 0 → u.held = 0 → u.reserved = 0 → 0 < u.reported ∨ queued = true → s.granted.anyPresent = true →
      placing retiring = none →
      let t : State := { retiring.setDue user with finalWaiting := retiring.finalWaiting ++ [user] }
      exec (.userRetire user) s = .next (t.replied a s.link.mark .ok (.user (t.userBlock user))))) ∧
  (∀ (s : State) (user : Nat),
     let final : QNotice := { notice := .usage user 0, attempts := 0, sending := false, final := true }
     let queued := s.out.queue.any fun q => q.notice.isUsageOf user
     let room := (s.out.queue.filter fun q => q.notice.isUsage).length < 4 ∧ s.out.queue.length < 8
     let qualifies := fun q : QNotice =>
       q.sending = false ∧ ∃ v x, q.notice = .usage v x ∧ ¬(q.final = true ∧ s.isRetiring v = true)
     (queued = true →
       s.placeFinal user = some { s with out := s.out.replace (Notice.isUsageOf user) (.usage user 0) true }) ∧
     (queued = false → room → s.placeFinal user = some { s with out := { s.out with queue := insertNotice final s.out.queue } }) ∧
     (queued = false → ¬ room →
       (∀ (a b : List QNotice) (q : QNotice), s.out.queue = a ++ q :: b → q ∉ a → qualifies q → (∀ x ∈ b, ¬ qualifies x) →
         s.placeFinal user = some (State.depart q .displaced { s with out := { s.out with queue := insertNotice final (a ++ b) } })) ∧
       ((∀ x ∈ s.out.queue, ¬ qualifies x) → s.placeFinal user = none))) ∧
  (∀ s : State, s.placeWaiting = s.finalWaiting.foldl (fun t user => match t.placeFinal user with
     | none => t
     | some u => { u with
         users := modifyFirst (fun r => r.user == user) (fun r => { r with reportDue := false }) u.users
         finalWaiting := u.finalWaiting.filter fun w => w != user }) s)

/-- USER-QUERY reads the record and changes nothing; USER-WATCH appends a user to a list of fewer than 4, and USER-UNWATCH removes one; each
reply tells whether the user was listed and how many are (R38, R40, R41). -/
def Obligations.QueryWatchAndUnwatch : Prop :=
  ∀ (s : State) (user : Nat) (u : UserRec), user ≠ 0 → s.settle.findActive user = some u →
    let w := s.settings.heldWeight
    let block : UserBlock := { user := user, state := some u.state, estimate := some (estimate w u) }
    let listed := s.granted.watch
    (s.served (.userQuery user) →
      exec (.userQuery user) s = .next (s.granted.replied (.userQuery user) s.link.mark .ok
        (.userQuery block (some { record := u, weightedHeld := weightedHeld w u.held, ownCharge := ownCharge w u
                                  remoteSum := remoteSum u, watched := decide (user ∈ listed) })))) ∧
    (s.served (.userWatch user) → user ∈ listed →
      exec (.userWatch user) s = .next (s.granted.replied (.userWatch user) s.link.mark .ok (.userWatch block true listed.length))) ∧
    (s.served (.userWatch user) → user ∉ listed → listed.length < 4 →
      exec (.userWatch user) s = .next (({ s.granted with watch := listed ++ [user] } : State).replied (.userWatch user) s.link.mark .ok
        (.userWatch block false (listed.length + 1)))) ∧
    (s.served (.userWatch user) → user ∉ listed → 4 ≤ listed.length →
      exec (.userWatch user) s =
        .next (s.granted.replied (.userWatch user) s.link.mark .watchFull (.userWatch block false listed.length))) ∧
    (s.served (.userUnwatch user) →
      let rest := listed.filter fun x => x != user
      exec (.userUnwatch user) s = .next (({ s.granted with watch := rest } : State).replied (.userUnwatch user) s.link.mark .ok
        (.userWatch block (decide (user ∈ listed)) rest.length)))

/-- The checks that every request naming a user record shares, which change nothing but the reply: BAD_REQUEST for user number 0 and for a
count of 0, RANGE for a figure above its range, then UNKNOWN_USER without a record or for a RETIRING one (R25, R119, R135). -/
def Obligations.SharedChecksRefuseUserRequests : Prop :=
  ∀ (s : State) (a : Access), s.served a →
    let refused := fun (status : Status) => ∃ body, exec a.command s = .next (s.granted.replied a s.link.mark status body)
    (a.user = some 0 → exec a.command s = .next (s.granted.replied a s.link.mark .badRequest .empty)) ∧
    (∀ user : Nat, user ≠ 0 →
      (a = .charge user 0 ∨ a = .credit user 0 ∨ (∃ e, a = .hold user e 0) ∨ (∃ e, a = .restoreBegin user e 0) →
        exec a.command s = .next (s.granted.replied a s.link.mark .badRequest .empty)) ∧
      ((∃ n, a = .credit user n ∧ 268435455 < n) ∨
       (∃ soft hard live, a = .userLoad user soft hard live ∧ (268435455 < soft ∨ 268435455 < hard ∨ 268435455 < live)) ∨
       (∃ soft hard, a = .userLimits user soft hard ∧ (268435455 < soft ∨ 268435455 < hard)) ∨
       (∃ e n, a = .hold user e n ∧ 268435455 < n) ∨ (∃ e n, a = .restoreBegin user e n ∧ 1048575 < n) →
        refused .range) ∧
      (s.settle.findActive user = none →
        (∃ n, a = .charge user n ∧ n ≠ 0) ∨ (∃ n, a = .credit user n ∧ n ≠ 0 ∧ n ≤ 268435455) ∨
        (∃ soft hard, a = .userLimits user soft hard ∧ soft ≤ 268435455 ∧ hard ≤ 268435455) ∨ a = .userFreeze user ∨ a = .userThaw user ∨
        a = .userRetire user ∨ a = .userQuery user ∨ a = .userResync user ∨ a = .userWatch user ∨ a = .userUnwatch user ∨
        (∃ e n, a = .hold user e n ∧ n ≠ 0 ∧ n ≤ 268435455) ∨ (∃ e n, a = .restoreBegin user e n ∧ n ≠ 0 ∧ n ≤ 1048575) →
        refused .unknownUser))

/-! ### HOLD and snapshot expiry (chapter 6) -/

/-- An admitted HOLD: the user's hold record in the epoch grows, or a new one is appended with one more hold counted; the entry's held total
grows; live falls and held rises by n; the access ends as every changing access (R119, R120). The refusals of HOLD after the shared checks,
in their order; each changes nothing but the reply (R119). -/
def Obligations.HoldMovesSpaceOrRefuses : Prop :=
  (∀ (s : State) (user n : Nat) (e : Epoch) (u : UserRec) (c : CatEntry), s.served (.hold user e n) → user ≠ 0 → n ≠ 0 → n ≤ 268435455 →
     s.settle.findActive user = some u → s.settle.findEpoch e = some c → c.state ≠ .asked → c.state ≠ .expiring → n ≤ u.live →
     u.held + n ≤ 268435455 → c.heldTotal + n ≤ 268435455 →
     let mine := fun h : Hold => h.user == user && h.epoch == e
     let existing := s.settle.holds.any mine
     let holds := if existing then modifyFirst mine (fun h => { h with units := h.units + n }) s.settle.holds
       else s.settle.holds ++ [{ user := user, epoch := e, units := n }]
     let t0 : State := { s.granted with
       holds := holds
       cat := modifyFirst (fun c => c.epoch == e)
         (fun c => { c with heldTotal := c.heldTotal + n, holdCount := c.holdCount + if existing then 0 else 1 }) s.granted.cat }
     let t := t0.commit u { u with live := u.live - n, held := u.held + n }
     existing = true ∨ s.settle.holds.length < s.settings.holdRecords →
     exec (.hold user e n) s = .next (t.replied (.hold user e n) s.link.mark .ok
       (.hold (t.userBlock user) (holdUnits user e holds) (!existing) (s.settings.holdRecords - holds.length)))) ∧
  (∀ (s : State) (user n : Nat) (e : Epoch) (u : UserRec), s.served (.hold user e n) → user ≠ 0 → n ≠ 0 → n ≤ 268435455 →
     s.settle.findActive user = some u →
     let refused := fun status : Status =>
       exec (.hold user e n) s =
         .next (s.granted.replied (.hold user e n) s.link.mark status (.hold (s.granted.userBlock user) 0 false 0))
     (s.settle.findEpoch e = none → refused .noSuchEpoch) ∧
     ∀ c : CatEntry, s.settle.findEpoch e = some c →
       (c.state = .asked → refused .wrongState) ∧ (c.state = .expiring → refused .expiring) ∧
       (c.state ≠ .asked → c.state ≠ .expiring →
         (u.live < n → refused .range) ∧
         (n ≤ u.live → 268435455 < u.held + n ∨ 268435455 < c.heldTotal + n → refused .range) ∧
         (n ≤ u.live → u.held + n ≤ 268435455 → c.heldTotal + n ≤ 268435455 → s.settle.holds.any (isHold user e) = false →
           s.settings.holdRecords ≤ s.settle.holds.length → refused .poolFull)))

/-- The checks of SNAP-EXPIRE in their order; a refusal changes nothing but the reply, which carries the entry's counts (R122). An admitted
SNAP-EXPIRE: with discard the epoch's queued duplication work is purged; the entry becomes EXPIRING and its sweep offers a step, or
completes at once over an empty hold list: the entry leaves and EXPIRY_DONE is raised (R123, R124, R129). One expiry sweep step, when no
client of classes 1 and 2 waits: the head of the hold list is freed, held space and the held total fall by its units, the access ends as
every changing access, and the next step waits, or the sweep completes (R127, R126, R129, R14). That the missing set of a PARTIAL entry stays is
the model's reading of R124 against R96 (log 43). -/
def Obligations.SnapExpireSweepsTheEpochsHolds : Prop :=
  (∀ (s : State) (e : Epoch) (discard : Bool), s.takesRequests →
     (s.atTaking.findEpoch e = none →
       exec (.snapExpire e discard) s = .next (State.answer .noSuchEpoch 52 false (.snapExpire none 0 false 0) s.atTaking)) ∧
     ∀ c : CatEntry, s.atTaking.findEpoch e = some c →
       let refused := fun status : Status =>
         exec (.snapExpire e discard) s = .next (State.answer status 52 false (.snapExpire (some c) 0 false 0) s.atTaking)
       (c.state = .expiring → refused .expiring) ∧ (c.state = .asked ∨ c.state = .ready → refused .wrongState) ∧
       (c.state = .closed ∨ c.state = .closedPartial →
         (0 < c.pins → refused .pinned) ∧ (c.pins = 0 → 0 < c.inFlight → refused .busy) ∧
         (c.pins = 0 → c.inFlight = 0 → discard = false → c.dupState = .notQueued ∨ c.dupState = .queued ∨ c.dupState = .ending →
           refused .notOffsite) ∧
         (c.pins = 0 → c.inFlight = 0 → discard = true ∨ c.dupState = .sent ∨ c.dupState = .incomplete ∨ c.dupState = .discarded →
           s.sweep ≠ .idle → refused .sweepBusy))) ∧
  (∀ (s : State) (e : Epoch) (discard : Bool) (c : CatEntry), s.takesRequests → s.atTaking.findEpoch e = some c →
     c.state = .closed ∨ c.state = .closedPartial → c.pins = 0 → c.inFlight = 0 →
     discard = true ∨ c.dupState = .sent ∨ c.dupState = .incomplete ∨ c.dupState = .discarded → s.sweep = .idle →
     let t := s.atTaking
     let named := fun q : DupEntry => decide (q.work.epoch = some e)
     let purged := if discard then (t.dup.queue.filter named).length else 0
     let dup := if discard then { t.dup with queue := t.dup.queue.filter fun q => !named q } else t.dup
     let entry := fun c : CatEntry =>
       if discard then { c with queuedCount := 0, dupState := .discarded, state := .expiring } else { c with state := .expiring }
     (s.holds.filter (fun h => h.epoch == e) = [] →
       exec (.snapExpire e discard) s = .next (State.answer .ok 52 false (.snapExpire (some c) c.holdCount true purged)
         { t with
           dup := dup
           cat := t.cat.eraseP (fun c => c.epoch == e)
           causes := raiseIn t.tb.frame { kind := .expiryDone, subject := .epoch e, value := some (.number 0) } t.causes })) ∧
     (s.holds.filter (fun h => h.epoch == e) ≠ [] →
       exec (.snapExpire e discard) s = .next (State.answer .ok 52 false (.snapExpire (some c) c.holdCount false purged)
         { t with
           dup := dup
           cat := modifyFirst (fun c => c.epoch == e) entry t.cat
           sweep := .expiry e 0 true }))) ∧
  (∀ (s : State) (e : Epoch) (swept : Nat) (h : Hold) (more : List Hold) (u : UserRec), s.servesClass3 → s.sweep = .expiry e swept true →
     s.holds.filter (fun h => h.epoch == e) = h :: more → s.settle.findUser h.user = some u →
     let t0 : State := { s.settle with
       holds := s.holds.eraseP fun g => g.user == h.user && g.epoch == h.epoch
       cat := modifyFirst (fun c => c.epoch == h.epoch)
         (fun c => { c with heldTotal := c.heldTotal - h.units, holdCount := c.holdCount - 1 }) s.settle.cat }
     let t := t0.commit u { u with held := u.held - h.units }
     (more ≠ [] → exec .expirySweepStep s = .next { t with sweep := .expiry e (swept + 1) true }) ∧
     (more = [] → exec .expirySweepStep s = .next { t with
       cat := t.cat.eraseP (fun c => c.epoch == e)
       causes := raiseIn t.tb.frame { kind := .expiryDone, subject := .epoch e, value := some (.number (swept + 1)) } t.causes
       sweep := .idle }))

/-! ### Restores (chapter 7) -/

/-- RESTORE-BEGIN: the lowest FREE slot becomes ACTIVE with its generation advanced, the epoch is pinned, and reserved space rises by n; the
refusals, in their order, change nothing but the reply, and E′ is absent before the admission (R134, R135, R136). -/
def Obligations.RestoreBeginReservesAndPins : Prop :=
  ∀ (s : State) (user n : Nat) (e : Epoch) (u : UserRec), s.served (.restoreBegin user e n) → user ≠ 0 → n ≠ 0 → n ≤ 1048575 →
    s.settle.findActive user = some u →
    let a : Access := .restoreBegin user e n
    let refused := fun (status : Status) (tested : Option Nat) =>
      exec (.restoreBegin user e n) s =
        .next (s.granted.replied a s.link.mark status (.restoreBegin (s.granted.userBlock user) tested none))
    let e' := some (estimate s.settings.heldWeight u + n)
    let status := admission s.settings.heldWeight n true u
    (s.settle.findEpoch e = none → refused .noSuchEpoch none) ∧
    ∀ c : CatEntry, s.settle.findEpoch e = some c →
      (c.state = .asked ∨ c.state = .ready → refused .wrongState none) ∧ (c.state = .expiring → refused .expiring none) ∧
      (c.state = .closed ∨ c.state = .closedPartial →
        ((∀ i : Fin 8, (s.settle.jobSlot i).job.isSome = true) → refused .jobsFull none) ∧
        ∀ i : Fin 8, (s.settle.jobSlot i).job = none → (∀ k : Fin 8, k < i → (s.settle.jobSlot k).job.isSome = true) →
          (status ≠ .ok → status ≠ .okSoft → refused status e') ∧
          (status = .ok ∨ status = .okSoft →
            let gen := (s.settle.jobSlot i).gen + 1
            let begun : Job := { user := u.user, epoch := e, remaining := n, moved := 0, idle := 0, releaseWaiting := false }
            let t0 : State := { s.granted with
              jobs := s.granted.jobs.set i.val { gen := gen, job := some begun }
              cat := modifyFirst (fun c => c.epoch == e) (fun c => { c with pins := c.pins + 1 }) s.granted.cat }
            let t := t0.commit u { u with reserved := u.reserved + n }
            exec (.restoreBegin user e n) s =
              .next (t.replied a s.link.mark status (.restoreBegin (t.userBlock user) e' (some (gen.val * 8 + i.val))))))

/-- The end of a job, shared by RESTORE-END, the idle timeout and the releases of RESTART: the slot becomes FREE with its generation kept,
the pin falls, and the remaining reservation is released from the user's record, unless that record has left or is RETIRING (R140, R143,
R146, R139). RESTORE-PROGRESS moves at most the remaining reservation from reserved to live space and ends the job's idleness; RESTORE-END
ends the job and tells what was released. An unknown handle, a handle above 63, and counts out of range change nothing but the reply (R134,
R137, R138, R139, R140). That the replies carry the job's user number, which the requests do not send, is the model's choice (R26, log 44). -/
def Obligations.RestoreProgressEndsAndReleases : Prop :=
  (∀ (s : State) (i : Fin 8) (j : Job),
     let freed : State := { s with
       jobs := s.jobs.set i.val { gen := (s.jobSlot i).gen, job := none }
       cat := modifyFirst (fun c => c.epoch == j.epoch) (fun c => { c with pins := c.pins - 1 }) s.cat }
     (∀ u : UserRec, s.findActive j.user = some u → s.endJob i j = freed.commit u { u with reserved := u.reserved - j.remaining }) ∧
     (s.findActive j.user = none → s.endJob i j = freed)) ∧
  (∀ (s : State) (handle k : Nat),
     let slot : Fin 8 := Fin.ofNat 8 (handle % 8)
     let job := if (s.settle.jobSlot slot).gen = Fin.ofNat 8 (handle / 8) then (s.settle.jobSlot slot).job else none
     let none3 : UserBlock := { user := 0, state := none, estimate := none }
     let block := fun (t : State) (user : Nat) => if (t.findActive user).isSome then t.userBlock user else { none3 with user := user }
     (s.served (.restoreProgress handle k) →
       let answers := fun (status : Status) (body : ReplyBody) (t : State) =>
         exec (.restoreProgress handle k) s = .next (t.replied (.restoreProgress handle k) s.link.mark status body)
       (k = 0 ∨ (k ≤ 1048575 ∧ 63 < handle) → answers .badRequest .empty s.granted) ∧
       (1048575 < k → answers .range (.restoreProgress none3 0 0 0) s.granted) ∧
       (k ≠ 0 → k ≤ 1048575 → handle ≤ 63 →
         (job = none → answers .noSuchHandle (.restoreProgress none3 0 0 0) s.granted) ∧
         ∀ j : Job, job = some j →
           let moved := min k j.remaining
           let progressed : Job := { j with remaining := j.remaining - moved, moved := j.moved + moved, idle := 0 }
           let t0 : State := { s.granted with
             jobs := s.granted.jobs.set slot.val { gen := (s.granted.jobSlot slot).gen, job := some progressed } }
           let status := if k ≤ j.remaining then Status.ok else .replyPartial
           (∀ u : UserRec, s.granted.findActive j.user = some u →
             let t := t0.commit u { u with reserved := u.reserved - moved, live := u.live + moved }
             answers status (.restoreProgress (block t j.user) moved (j.remaining - moved) (j.moved + moved)) t) ∧
           (s.granted.findActive j.user = none →
             answers status (.restoreProgress (block t0 j.user) moved (j.remaining - moved) (j.moved + moved)) t0))) ∧
     (s.served (.restoreEnd handle) →
       let answers := fun (status : Status) (body : ReplyBody) (t : State) =>
         exec (.restoreEnd handle) s = .next (t.replied (.restoreEnd handle) s.link.mark status body)
       (63 < handle → answers .badRequest .empty s.granted) ∧
       (handle ≤ 63 → job = none → answers .noSuchHandle (.restoreEnd none3 0 0) s.granted) ∧
       (∀ j : Job, handle ≤ 63 → job = some j →
         let t := s.granted.endJob slot j
         answers .ok (.restoreEnd (block t j.user) j.moved j.remaining) t)))

/-- A job that reaches the restore idle limit has its release offered: it waits last in class 1, naming the slot and its generation. Only
the lowest slot still due may be next, since releases begin to wait in ascending slot order (R141, R14; the row order is log 7). An idle-
timeout release, when it is the oldest client of class 1: a job of its generation still at the limit times out with RESTORE_TIMEOUT; one
progressed meanwhile has its release waiting cleared; otherwise nothing changes (R142, R143). -/
def Obligations.IdleJobsTimeOut : Prop :=
  (∀ (s : State) (slot : Fin 8) (j : Job),
     (s.jobSlot slot).job = some j → j.releaseWaiting = false → s.settings.idleLimit ≤ j.idle → (∀ k : Fin 8, k < slot → s.idleDue k = false) →
     exec (.idleLimitReached slot) s = .next { s with
       jobs := s.jobs.set slot.val { gen := (s.jobSlot slot).gen, job := some { j with releaseWaiting := true } }
       class1 := s.class1 ++ [.idleRelease slot (s.jobSlot slot).gen] }) ∧
  (∀ (s : State) (i gen : Fin 8) (rest : List Client), s.settle.class1 = .idleRelease i gen :: rest →
     let t : State := { s.settle with class1 := rest }
     (∀ j : Job, (t.jobSlot i).gen = gen → (t.jobSlot i).job = some j → s.settings.idleLimit ≤ j.idle →
       exec .idleTimeoutRelease s =
         .next ((t.endJob i j).raise .restoreTimeout (.handle (gen.val * 8 + i.val)) (some (.number j.moved)))) ∧
     (∀ j : Job, (t.jobSlot i).gen = gen → (t.jobSlot i).job = some j → j.idle < s.settings.idleLimit →
       exec .idleTimeoutRelease s =
         .next { t with jobs := t.jobs.set i.val { gen := gen, job := some { j with releaseWaiting := false } } }) ∧
     ((t.jobSlot i).gen ≠ gen ∨ (t.jobSlot i).job = none → exec .idleTimeoutRelease s = .next t))

/-! ### Snapshot epochs (chapter 5) -/

/-- Epochs compare modulo 65,536: newer by 1 to 32,767, and every epoch is newer than an absent one; the successor wraps (R93, R99).
SNAP-TAKE: refused while an entry is ASKED or READY, with 64 entries, or when the span would break; else an ASKED entry of this station is
appended, the latest epoch advances, and EPOCH-PROPOSE is offered (R99, R94). -/
def Obligations.SnapTakeProposesTheNextEpoch : Prop :=
  ((∀ a b : Epoch, newer a b = true ↔ 1 ≤ (65536 + a.toNat - b.toNat) % 65536 ∧ (65536 + a.toNat - b.toNat) % 65536 ≤ 32767) ∧
     (∀ a : Epoch, newer a a = false) ∧ (∀ a b : Epoch, newer a b = true → newer b a = false) ∧
     (∀ a : Epoch, newerThanLatest a none = true) ∧ (∀ a b : Epoch, newerThanLatest a (some b) = newer a b) ∧
     (∀ e : Epoch, (nextEpoch (some e)).toNat = (e.toNat + 1) % 65536) ∧ nextEpoch none = 1 ∧
     newer 18 17 = true ∧ newer 17 18 = false ∧ newer 3 65530 = true ∧ newer 40000 1 = false ∧ newer 32769 1 = false) ∧
  (∀ s : State, s.takesRequests →
       let t := s.atTaking
       let e : Epoch := match t.latest with
         | none => 1
         | some l => l + 1
       let open' := ∃ c ∈ t.cat, c.state = .asked ∨ c.state = .ready
       let spans := ∀ c ∈ t.cat, c.state = .asked ∨ (e - c.epoch).toNat ≤ 32767
       let entry : CatEntry :=
         { epoch := e, state := .asked, proposer := s.station, early := some 0#16, required := none, ready := none, missing := none
           timer := some s.settings.askLimit, heldTotal := 0, holdCount := 0, pins := 0, dupState := .notQueued, failedExtent := false
           queuedCount := 0, inFlight := 0 }
       (open' → exec .snapTake s = .next (State.answer .busy 48 false (.snapTake none) t)) ∧
       (¬ open' → 64 ≤ t.cat.length ∨ ¬ spans → exec .snapTake s = .next (State.answer .catalogueFull 48 false (.snapTake none) t)) ∧
       (¬ open' → t.cat.length < 64 → spans →
         exec .snapTake s = .next (State.answer .ok 48 false (.snapTake (some e))
           (({ t with cat := t.cat ++ [entry], latest := some e } : State).offerEpoch (.epochPropose e)))))

/-- SNAP-READY of an ASKED entry: the required set is the PRESENT stations, the ready set this station with the early set, the close timer
runs, EPOCH-READY is offered and the close test runs; other entries are WRONG_STATE and none is NO_SUCH_EPOCH (R105). -/
def Obligations.SnapReadyMakesTheEntryReady : Prop :=
  ∀ (s : State) (e : Epoch), s.takesRequests →
    let t := s.atTaking
    (t.findEpoch e = none → exec (.snapReady e) s = .next (State.answer .noSuchEpoch 49 false (.snapReady 0#16 0#16 false) t)) ∧
    (∀ c : CatEntry, t.findEpoch e = some c → c.state ≠ .asked →
      exec (.snapReady e) s = .next (State.answer .wrongState 49 false (.snapReady 0#16 0#16 false) t)) ∧
    (∀ (c : CatEntry) (early : StationSet), t.findEpoch e = some c → c.state = .asked → c.early = some early →
      let required := t.presentSet
      let ready := addTo s.station early
      let readied := fun c : CatEntry =>
        { c with state := .ready, required := some required, ready := some (addTo s.station (c.early.getD 0#16)), early := none
                 timer := some s.settings.closeLimit }
      let offered := State.offerEpoch (.epochReady e) { t with cat := modifyFirst (fun c => c.epoch == e) readied t.cat }
      exec (.snapReady e) s =
        .next (State.answer .ok 49 false (.snapReady required ready (within required ready)) (offered.closeTest e))) ∧
    (∀ st : Station, inSet st t.presentSet = decide ((t.peer st).state = .present))

/-- An EPOCH-PROPOSE at the head of the receive queue: a newer one advances the latest epoch, abandons an ASKED entry and is entered with
EPOCH_ASKED, or raises CATALOGUE_FULL for want of room or span; an equal one with its entry is a collision; any other is answered with
EPOCH-LATEST, unless that answer is already queued (R101, R102, R103, R94); that a withdrawal, with the waiting final notices then tried,
comes before the offer, and that it takes the first of two older answers, are the model's (log 30, log 36). An EPOCH-READY at the head of
the receive queue adds its sender to the early set of an ASKED entry or to the ready set of any other, and the close test follows; without
an entry a newer one is taken as a proposal with its sender early, and any other is ignored (R106, R107, R101). An EPOCH-LATEST, and a
PRESENCE that carries an epoch, announce that epoch: a newer one within the span abandons an ASKED entry, raises EPOCH_MISSED and becomes
the latest; one beyond the span raises CATALOGUE_FULL; any other changes nothing. A PRESENCE first sets the sender's latest epoch heard
(R104, R70, R94). -/
def Obligations.ReceivedEpochNotices : Prop :=
  (∀ (s : State) (st : Station) (e : Epoch) (rest : List RxNotice), s.receives st (.epochPropose e) rest →
     let t := s.withRecv rest
     let spans := ∀ c ∈ t.cat, c.state = .asked ∨ (e - c.epoch).toNat ≤ 32767
     let a := t.abandonAsked true
     let entry : CatEntry :=
       { epoch := e, state := .asked, proposer := st, early := some 0#16, required := none, ready := none, missing := none
         timer := some s.settings.askLimit, heldTotal := 0, holdCount := 0, pins := 0, dupState := .notQueued, failedExtent := false
         queuedCount := 0, inFlight := 0 }
     (newerThanLatest e t.latest = true → ¬ spans →
       exec .epochProposeReceipt s = .next (t.raise .catalogueFull (.epoch e) (some (.catalogue true)))) ∧
     (newerThanLatest e t.latest = true → spans → a.cat.length < 64 →
       exec .epochProposeReceipt s = .next { ({ a with cat := a.cat ++ [entry] } : State).raise .epochAsked (.epoch e) (some (.proposer st))
         with latest := some e }) ∧
     (newerThanLatest e t.latest = true → spans → 64 ≤ a.cat.length →
       exec .epochProposeReceipt s = .next { a.raise .catalogueFull (.epoch e) (some (.catalogue false)) with latest := some e }) ∧
     (t.latest = some e → (t.findEpoch e).isSome = true →
       exec .epochProposeReceipt s = .next (t.withdraw fun n => decide (n = .epochPropose e))) ∧
     (∀ l : Epoch, t.latest = some l → newer e l = false → e ≠ l ∨ (t.findEpoch e).isSome = false →
       (t.out.has (fun n => decide (n = .epochLatest l)) = true → exec .epochProposeReceipt s = .next t) ∧
       (t.out.has (fun n => decide (n = .epochLatest l)) = false →
         exec .epochProposeReceipt s = .next (State.offerEpoch (.epochLatest l) (t.withdraw fun n =>
           match n with
           | .epochLatest x => newer l x
           | _ => false))))) ∧
  (∀ (s : State) (st : Station) (e : Epoch) (rest : List RxNotice), s.receives st (.epochReady e) rest →
     let t := s.withRecv rest
     let spans := ∀ c ∈ t.cat, c.state = .asked ∨ (e - c.epoch).toNat ≤ 32767
     let a := t.abandonAsked true
     let entry : CatEntry :=
       { epoch := e, state := .asked, proposer := st, early := some (oneStation st), required := none, ready := none, missing := none
         timer := some s.settings.askLimit, heldTotal := 0, holdCount := 0, pins := 0, dupState := .notQueued, failedExtent := false
         queuedCount := 0, inFlight := 0 }
     (∀ c : CatEntry, t.findEpoch e = some c →
       (c.state = .asked → exec .epochReadyReceipt s = .next { t with
         cat := modifyFirst (fun c => c.epoch == e) (fun c => { c with early := c.early.map (addTo st) }) t.cat }) ∧
       (c.state ≠ .asked → exec .epochReadyReceipt s = .next (State.closeTest e { t with
         cat := modifyFirst (fun c => c.epoch == e) (fun c => { c with ready := c.ready.map (addTo st) }) t.cat }))) ∧
     (t.findEpoch e = none → newerThanLatest e t.latest = false → exec .epochReadyReceipt s = .next t) ∧
     (t.findEpoch e = none → newerThanLatest e t.latest = true → ¬ spans →
       exec .epochReadyReceipt s = .next (t.raise .catalogueFull (.epoch e) (some (.catalogue true)))) ∧
     (t.findEpoch e = none → newerThanLatest e t.latest = true → spans → a.cat.length < 64 →
       exec .epochReadyReceipt s = .next { ({ a with cat := a.cat ++ [entry] } : State).raise .epochAsked (.epoch e) (some (.proposer st))
         with latest := some e }) ∧
     (t.findEpoch e = none → newerThanLatest e t.latest = true → spans → 64 ≤ a.cat.length →
       exec .epochReadyReceipt s = .next { a.raise .catalogueFull (.epoch e) (some (.catalogue false)) with latest := some e })) ∧
  (∀ (s : State) (st : Station) (rest : List RxNotice),
     let heard := fun (l : Epoch) (t : State) =>
       if newerThanLatest l t.latest = true then
         if t.cat.all (fun c => decide (c.state = .asked) || decide ((l - c.epoch).toNat ≤ 32767)) = true then
           ({ (t.abandonAsked true).raise .epochMissed (.epoch l) none with latest := some l } : State)
         else t.raise .catalogueFull (.epoch l) (some (.catalogue true))
       else t
     let t := s.withRecv rest
     let noted := fun latest : Option Epoch => ({ t with peers := t.peers.set st.val { t.peer st with latest := latest } } : State)
     (∀ l : Epoch, s.receives st (.epochLatest l) rest → exec .epochLatestReceipt s = .next (heard l t)) ∧
     (∀ l : Epoch, s.receives st (.presence (some l)) rest → exec .presenceReceipt s = .next (heard l (noted (some l)))) ∧
     (s.receives st (.presence none) rest → exec .presenceReceipt s = .next (noted none)))

/-- The close test: a READY entry whose required stations are all ready becomes CLOSED with its timer dropped, and EPOCH_CLOSED tells WHOLE;
one with a required station missing stays READY; in any other state nothing happens (R108). The abandonment of the ASKED entry: it leaves
the catalogue with EPOCH_ABANDONED, and an own EPOCH-PROPOSE for it that is not in transmission is withdrawn; without an ASKED entry nothing
happens (R100). The expiries that follow a boundary: an ASKED entry whose ask timer is 0 is abandoned with TIMEOUT; a READY entry whose
close timer is 0 becomes PARTIAL with the missing stations, and EPOCH_CLOSED tells PARTIAL (R110, R111). -/
def Obligations.EntriesCloseAndAreAbandoned : Prop :=
  (∀ (s : State) (e : Epoch) (c : CatEntry) (required ready : StationSet), s.findEpoch e = some c →
     c.required = some required → c.ready = some ready →
     (c.state = .ready → (∀ st : Station, inSet st required = true → inSet st ready = true) →
       s.closeTest e = State.raise .epochClosed (.epoch e) (some (.closedWhole true))
         { s with cat := modifyFirst (fun c => c.epoch == e) (fun c => { c with state := .closed, timer := none }) s.cat }) ∧
     (c.state = .ready → (∃ st : Station, inSet st required = true ∧ inSet st ready = false) → s.closeTest e = s) ∧
     (c.state ≠ .ready → s.closeTest e = s)) ∧
  (∀ (s : State) (newerEpoch : Bool),
     (s.cat.find? (fun c => decide (c.state = .asked)) = none → s.abandonAsked newerEpoch = s) ∧
     ∀ c : CatEntry, s.cat.find? (fun c => decide (c.state = .asked)) = some c →
       let t := State.raise .epochAbandoned (.epoch c.epoch) (some (.abandoned newerEpoch))
         { s with cat := s.cat.eraseP fun c => decide (c.state = .asked) }
       (c.proposer ≠ s.station → s.abandonAsked newerEpoch = t) ∧
       (c.proposer = s.station → s.abandonAsked newerEpoch = t.withdraw fun n => decide (n = .epochPropose c.epoch))) ∧
  (∀ s : State,
     (∀ c : CatEntry, s.cat.find? (fun c => decide (c.state = .asked)) = some c → c.timer = some 0 →
       exec .askTimerExpiry s = .next (s.abandonAsked false)) ∧
     (∀ (e : Epoch) (c : CatEntry), s.findEpoch e = some c → c.state = .ready → c.timer = some 0 →
       exec (.closeTimerExpiry e) s = .next (State.raise .epochClosed (.epoch e) (some (.closedWhole false)) { s with
         cat := modifyFirst (fun c => c.epoch == e)
           (fun c => { c with
             state := .closedPartial
             timer := none
             missing := some (c.required.getD 0#16 &&& ~~~ c.ready.getD 0#16) }) s.cat })))

/-! ### The Peer View and the usage exchange (chapter 4) -/

/-- PEER-QUERY and PEER-DROP of a number above 15 or of the own number are BAD_REQUEST. PEER-DROP of a station that is not GONE is
WRONG_STATE, during a sweep SWEEP_BUSY; admitted, its drop sweep offers a first step, or over an empty table completes at once (R91, R88,
R89; the empty table is log 20). One drop sweep step, when no client of classes 1 and 2 waits: the station's entry leaves the remote list of
the next record above the position, and the record is re-evaluated; the next step waits, or with no record above it the sweep completes: the
entry is ABSENT and DROP_DONE tells the entries removed (R89, R14). -/
def Obligations.PeerDropSweepsTheStation : Prop :=
  (∀ s : State, s.takesRequests →
     let t := s.atTaking
     (∀ n : Nat, 15 < n ∨ n = s.station.val →
       exec (.peerQuery n) s = .next (State.answer .badRequest 32 false .empty t) ∧
       exec (.peerDrop n) s = .next (State.answer .badRequest 33 false .empty t)) ∧
     ∀ st : Station, st ≠ s.station →
       ((t.peer st).state ≠ .gone → exec (.peerDrop st.val) s = .next (State.answer .wrongState 33 false .peerDrop t)) ∧
       ((t.peer st).state = .gone → s.sweep ≠ .idle →
         exec (.peerDrop st.val) s = .next (State.answer .sweepBusy 33 false .peerDrop t)) ∧
       ((t.peer st).state = .gone → s.sweep = .idle → t.users ≠ [] →
         exec (.peerDrop st.val) s = .next (State.answer .ok 33 false .peerDrop { t with sweep := .drop st none 0 true })) ∧
       ((t.peer st).state = .gone → s.sweep = .idle → t.users = [] →
         exec (.peerDrop st.val) s = .next (State.answer .ok 33 false .peerDrop { t with
           peers := t.peers.set st.val { t.peer st with state := .absent, latest := none, backlog := none }
           causes := raiseIn t.tb.frame { kind := .dropDone, subject := .station st, value := some (.number 0) } t.causes }))) ∧
  (∀ (s : State) (st : Station) (position : Option Nat) (removed : Nat) (u : UserRec), s.servesClass3 →
     s.sweep = .drop st position removed true → s.settle.users.find? (fun r => above position r.user) = some u →
     let held := u.remote.any fun r => r.station == st
     let t := if held then s.settle.commit u { u with remote := u.remote.filter fun r => r.station != st } else s.settle
     let count := removed + if held then 1 else 0
     ((t.users.find? fun r => u.user < r.user).isSome = true →
       exec .dropSweepStep s = .next { t with sweep := .drop st (some u.user) count true }) ∧
     ((t.users.find? fun r => u.user < r.user) = none →
       exec .dropSweepStep s = .next { t with
         peers := t.peers.set st.val { t.peer st with state := .absent, latest := none, backlog := none }
         causes := raiseIn t.tb.frame { kind := .dropDone, subject := .station st, value := some (.number count) } t.causes
         sweep := .idle }))

/-- The remote list and spill after a report of x from a station: the rows of R77, and the eviction or turning away of R78. -/
def Obligations.ReportsUpdateTheRemoteList : Prop :=
  ∀ (st : Station) (x : Nat) (u : UserRec),
    ((∃ r ∈ u.remote, r.station = st) →
      (x = 0 → receiveReport st x u = { u with remote := u.remote.filter fun r => r.station != st }) ∧
      (x ≠ 0 → ∀ (a b : List RemoteEntry) (r : RemoteEntry), u.remote = a ++ r :: b → r.station = st → (∀ y ∈ a, y.station ≠ st) →
        receiveReport st x u = { u with remote := a ++ { station := st, units := x } :: b })) ∧
    ((∀ r ∈ u.remote, r.station ≠ st) →
      (x = 0 → receiveReport st x u = u) ∧
      (x ≠ 0 → u.remote.length < 4 → receiveReport st x u = { u with remote := u.remote ++ [{ station := st, units := x }] }) ∧
      (x ≠ 0 → u.remote.length = 4 → (u.remote.map RemoteEntry.station).Nodup →
        ∀ (a b : List RemoteEntry) (m : RemoteEntry), u.remote = a ++ m :: b →
          (∀ r ∈ a ++ b, m.units < r.units ∨ m.units = r.units ∧ r.station < m.station) →
          (m.units < x → receiveReport st x u =
            { u with remote := a ++ { station := st, units := x } :: b, spill := max u.spill m.units }) ∧
          (x ≤ m.units → receiveReport st x u = { u with spill := max u.spill x })))

/-- A USAGE at the head of the receive queue, when no client of class 1 waits: received into the record and re-evaluated, or discarded
without a record or for a RETIRING one; a SHARE sets the sender's backlog and makes its share age 0. The notice leaves the queue (R76, R77,
R78, R79, R71, R14). -/
def Obligations.UsageAndShareReceipts : Prop :=
  ∀ (s : State) (st : Station) (rest : List RxNotice),
    let t := s.withRecv rest
    (∀ (user x : Nat) (u : UserRec), s.receives st (.usage user x) rest → s.settle.class1 = [] → s.settle.findActive user = some u →
      exec .usageReceipt s = .next (t.commit u (receiveReport st x u))) ∧
    (∀ user x : Nat, s.receives st (.usage user x) rest → s.settle.class1 = [] → s.settle.findActive user = none →
      exec .usageReceipt s = .next t) ∧
    (∀ b : Nat, s.receives st (.share b) rest →
      exec .shareReceipt s = .next { t with peers := t.peers.set st.val { t.peer st with backlog := some b, shareAge := 0 } })

/-- DIGEST-HOLD sets the hold flag; DIGEST-RESUME clears it and wakes the sweep, and changes nothing while not held. The gap timer's expiry
leaves it at the configured gap (R87, R83). A Digest Sweep visit, when no client of classes 1 to 4 waits and the conditions of R81 hold, to
the next record above the cursor, wrapping to the lowest: a record that is not RETIRING and whose report is due, or is marked by a round,
has USAGE(user, Q) offered; any other is passed (R82, R86, R80, R14). -/
def Obligations.DigestHoldsVisitsAndReports : Prop :=
  (∀ s : State,
     (s.takesRequests →
       exec .digestHold s = .next (State.answer .ok 34 false (.digest s.atTaking.digest.held)
         { s.atTaking with digest := { s.atTaking.digest with held := true } }) ∧
       (s.atTaking.digest.held = true → exec .digestResume s = .next (State.answer .ok 35 false (.digest true)
         { s.atTaking with digest := { s.atTaking.digest with held := false, quiet := 0 } })) ∧
       (s.atTaking.digest.held = false → exec .digestResume s = .next (State.answer .ok 35 false (.digest false) s.atTaking))) ∧
     (s.link.running = true → s.digest.gapTimer < s.settings.digestGap →
       exec .gapTimerReached s = .next { s with digest := { s.digest with gapTimer := s.settings.digestGap } })) ∧
  (∀ (s : State) (u : UserRec), s.settle.freeForClass5 = true →
     let t := s.settle
     t.digest.held = false → 0 < t.digest.round ∨ t.digest.quiet < t.users.length → t.digest.batch < s.settings.digestBatch →
     s.settings.digestGap ≤ t.digest.gapTimer → (t.out.queue.filter fun q => q.notice.isUsage).length < 4 → t.out.queue.length < 8 →
     (t.users.find? (fun r => above t.digest.cursor r.user) = some u ∨
       t.users.find? (fun r => above t.digest.cursor r.user) = none ∧ t.users.head? = some u) →
     let q := ownCharge s.settings.heldWeight u
     let due := u.state ≠ .retiring ∧ (u.reportDue = true ∨ 0 < t.digest.round ∧ 0 < q)
     (due → exec .digestSweepVisit s = .next { t with
       out := if t.out.has (Notice.isUsageOf u.user) then t.out.replace (Notice.isUsageOf u.user) (.usage u.user q) false
         else t.out.append (.usage u.user q) false
       users := putUser { u with reported := q, reportDue := false } t.users
       digest := { t.digest with cursor := some u.user, batch := t.digest.batch + 1, quiet := 0, round := t.digest.round - 1 } }) ∧
     (¬ due → exec .digestSweepVisit s = .next { t with
       digest := { t.digest with cursor := some u.user, quiet := t.digest.quiet + 1, round := t.digest.round - 1 } }))

/-- A grace-scan visit, when the scan runs and no client of classes 1 to 3 waits: grace remaining falls by 1, or at 0 the record lapses with
GRACE_EXPIRED and then WATCH; any other record is passed. The cursor takes the user number; with no record above it the scan ends, or
starts again for a boundary owed (R19, R18, R14). A visit that finds no record above the cursor, because that record was freed while the visit
waited, ends the scan (log 21): with nothing owed it is idle, and otherwise it starts again from before the lowest number, over an empty table
as often as it is owed until it is idle (R18). -/
def Obligations.GraceVisitCountsDownAndLapses : Prop :=
  (∀ (s : State) (u : UserRec), s.settle.freeForClass4 = true → s.scan.running = true →
    s.settle.users.find? (fun r => above s.scan.cursor r.user) = some u →
    let t := s.settle
    let more := (t.users.find? fun r => u.user < r.user).isSome
    let scan : GraceScan :=
      if more then { s.scan with cursor := some u.user }
      else if s.scan.owed = 0 then { running := false, cursor := some u.user, owed := 0 }
      else { running := true, cursor := none, owed := s.scan.owed - 1 }
    (∀ n : Nat, u.state = .grace (n + 1) →
      exec .graceScanVisit s = .next { t with users := putUser { u with state := .grace n } t.users, scan := scan }) ∧
    (u.state = .grace 0 →
      let expired := raiseIn s.tb.frame { kind := .graceExpired, subject := .user u.user, value := none } t.causes
      exec .graceScanVisit s = .next { t with
        users := putUser { u with state := .lapsed } t.users
        scan := scan
        causes := if u.user ∈ t.watch then
            raiseIn s.tb.frame { kind := .watch, subject := .user u.user, value := some (.userState .lapsed) } expired
          else expired }) ∧
    ((∀ n : Nat, u.state ≠ .grace n) → exec .graceScanVisit s = .next { t with scan := scan })) ∧
  (∀ s : State, s.settle.freeForClass4 = true → s.scan.running = true →
    s.settle.users.find? (fun r => above s.scan.cursor r.user) = none →
    exec .graceScanVisit s = .next { s.settle with
      scan :=
        if s.scan.owed = 0 then { running := false, cursor := s.scan.cursor, owed := 0 }
        else if s.settle.users = [] then { running := false, cursor := none, owed := 0 }
        else { running := true, cursor := none, owed := s.scan.owed - 1 } })

/-- What a notice's leaving the queue means to its owner, by its end. Every USAGE restarts the digest gap timer (R83). The final notice of a
RETIRING record owes the freeing at the four ends of its transmission, and waits again, with report due set, when it is displaced (R37, R36).
Any other USAGE owes report due when displaced, and when dropped unless it was a final notice whose record is gone (R85, R61; that corner is
log 16). SUPERSEDED, WITHDRAWN and the other kinds need nothing (R58, R85). What is owed stands in two lists, which are the model's (log 8).
RETIRING_RECORD_FREED frees a record so owed, with its watch-list entry, and passes one no longer RETIRING (R37, R22, log 16);
REPORT_DUE_AFTER_LOSS sets report due, with a wake, on a record that is present and not RETIRING (R85, R84). -/
def Obligations.NoticeEndsFreeRecordsAndOweReports : Prop :=
  (∀ (s : State) (q : QNotice) (e : NoticeEnd),
     (q.notice.isUsage = false → s.depart q e = s) ∧
     ∀ user x : Nat, q.notice = .usage user x →
       let t : State := { s with digest := { s.digest with gapTimer := 0 } }
       (q.final = true → s.isRetiring user = true →
         (e = .delivered ∨ e = .noListener ∨ e = .dropped ∨ e = .clash → s.depart q e = { t with freeOwed := t.freeOwed ++ [user] }) ∧
         (e = .displaced → s.depart q e = { t with
           users := modifyFirst (fun r => r.user == user) (fun r => { r with reportDue := true }) t.users
           digest := { t.digest with quiet := 0 }
           finalWaiting := t.finalWaiting ++ [user] }) ∧
         (e = .superseded ∨ e = .withdrawn → s.depart q e = t)) ∧
       (¬(q.final = true ∧ s.isRetiring user = true) →
         (e = .displaced ∨ e = .dropped ∧ q.final = false → s.depart q e = { t with dueOwed := t.dueOwed ++ [user] }) ∧
         (e = .delivered ∨ e = .noListener ∨ e = .clash ∨ e = .superseded ∨ e = .withdrawn ∨ e = .dropped ∧ q.final = true →
           s.depart q e = t))) ∧
  (∀ (s : State) (user : Nat),
       (user ∈ s.freeOwed →
         (s.isRetiring user = true → exec (.retiringRecordFreed user) s = .next { s with
           freeOwed := s.freeOwed.erase user
           users := s.users.eraseP (fun r => r.user == user)
           watch := s.watch.filter fun w => w != user }) ∧
         (s.isRetiring user = false → exec (.retiringRecordFreed user) s = .next { s with freeOwed := s.freeOwed.erase user })) ∧
       (user ∈ s.dueOwed →
         ((s.findActive user).isSome = true → exec (.reportDueAfterLoss user) s = .next { s with
           dueOwed := s.dueOwed.erase user
           users := modifyFirst (fun r => r.user == user) (fun r => { r with reportDue := true }) s.users
           digest := { s.digest with quiet := 0 } }) ∧
         (s.findActive user = none → exec (.reportDueAfterLoss user) s = .next { s with dueOwed := s.dueOwed.erase user })))

/-- A PRESENT entry that has reached the gone age becomes GONE with PEER_GONE, and its station leaves the required set of every READY entry,
each of which then takes the close test (R72, R109). -/
def Obligations.GoneAgeMakesAPeerGone : Prop :=
  ∀ (s : State) (st : Station), st ≠ s.station → (s.peer st).state = .present → s.settings.goneAge ≤ (s.peer st).framesSince →
    let gone := State.raise .peerGone (.station st) none
      { s with peers := s.peers.set st.val { s.peer st with state := .gone } }
    let leave := fun (t : State) (e : Epoch) =>
      match t.findEpoch e with
      | some c =>
        if c.state = .ready then
          State.closeTest e { t with
            cat := modifyFirst (fun c => c.epoch == e) (fun c => { c with required := c.required.map (removeFrom st) }) t.cat }
        else t
      | none => t
    exec (.peerGoneAge st) s = .next ((s.cat.map CatEntry.epoch).foldl leave gone)

/-! ### The Duplication Unit (chapter 8) -/

/-- DUP-EXTENT: a queued EXTENT of the same epoch and token absorbs the greater figure; else an entry of next-night parity is appended and
counted. The refusals, in their order, change nothing but the reply (R151, R152). DUP-END appends the epoch's END, which moves its
duplication state to ENDING; DUP-HALT appends a HALT; each with next-night parity, and QUEUE_FULL without a free entry (R153, R154, R149). -/
def Obligations.DuplicationWorkIsQueued : Prop :=
  (∀ (s : State) (e : Epoch) (token : Token) (units : Nat), s.takesRequests →
     let t := s.atTaking
     let answers := fun (status : Status) (body : ReplyBody) (u : State) =>
       exec (.dupExtent e token units) s = .next (State.answer status 80 false body u)
     let refused := fun status : Status => answers status (t.queueReply e none false) t
     let same := fun q : DupEntry => match q.work with
       | .extent f x _ => f == e && x == token
       | .endMark _ => false
       | .halt => false
     (units = 0 → answers .badRequest .empty t) ∧ (4096 < units → refused .range) ∧
     (1 ≤ units → units ≤ 4096 →
       (t.findEpoch e = none → refused .noSuchEpoch) ∧
       ∀ c : CatEntry, t.findEpoch e = some c →
         (c.state = .asked ∨ c.state = .ready ∨ c.state = .expiring → refused .wrongState) ∧
         (c.state = .closed ∨ c.state = .closedPartial →
           (c.dupState = .ending ∨ c.dupState = .sent ∨ c.dupState = .incomplete → refused .epochEnded) ∧
           (c.dupState = .discarded → refused .wrongState) ∧
           (c.dupState = .notQueued ∨ c.dupState = .queued →
             (t.dup.queue.any same = true →
               let grown := fun q : DupEntry => match q.work with
                 | .extent f x own => ({ q with work := .extent f x (max own units) } : DupEntry)
                 | .endMark _ => q
                 | .halt => q
               let u : State := { t with dup := { t.dup with queue := modifyFirst same grown t.dup.queue } }
               answers .ok (u.queueReply e (u.dup.queue.find? same) true) u) ∧
             (t.dup.queue.any same = false → t.freeDups = 0 → refused .queueFull) ∧
             (t.dup.queue.any same = false → t.freeDups ≠ 0 →
               let added : DupEntry := { work := .extent e token units, parity := !t.dup.night.getLsbD 0, retries := 0 }
               let u : State := { t with
                 dup := { t.dup with queue := t.dup.queue ++ [added] }
                 cat := modifyFirst (fun c => c.epoch == e)
                   (fun c => { c with
                     queuedCount := c.queuedCount + 1
                     dupState := if c.dupState = .notQueued then .queued else c.dupState }) t.cat }
               answers .ok (u.queueReply e (some added) false) u))))) ∧
  (∀ (s : State) (e : Epoch), s.takesRequests →
     let t := s.atTaking
     let refused := fun status : Status => exec (.dupEnd e) s = .next (State.answer status 81 false (t.queueReply e none false) t)
     let added := fun work : DupWork => ({ work := work, parity := !t.dup.night.getLsbD 0, retries := 0 } : DupEntry)
     let halted : State := { t with dup := { t.dup with queue := t.dup.queue ++ [added .halt] } }
     (t.findEpoch e = none → refused .noSuchEpoch) ∧
     (∀ c : CatEntry, t.findEpoch e = some c →
       (c.state = .asked ∨ c.state = .ready ∨ c.state = .expiring → refused .wrongState) ∧
       (c.state = .closed ∨ c.state = .closedPartial →
         (c.dupState = .ending ∨ c.dupState = .sent ∨ c.dupState = .incomplete → refused .epochEnded) ∧
         (c.dupState = .discarded → refused .wrongState) ∧
         (c.dupState = .notQueued ∨ c.dupState = .queued → t.freeDups = 0 → refused .queueFull) ∧
         (c.dupState = .notQueued ∨ c.dupState = .queued → t.freeDups ≠ 0 →
           let u : State := { t with
             dup := { t.dup with queue := t.dup.queue ++ [added (.endMark e)] }
             cat := modifyFirst (fun c => c.epoch == e) (fun c => { c with queuedCount := c.queuedCount + 1, dupState := .ending }) t.cat }
           exec (.dupEnd e) s = .next (State.answer .ok 81 false (u.queueReply e (some (added (.endMark e))) false) u)))) ∧
     (t.freeDups = 0 → exec .dupHalt s = .next (State.answer .queueFull 82 false (.dupHalt 0) t)) ∧
     (t.freeDups ≠ 0 → exec .dupHalt s = .next (State.answer .ok 82 false (.dupHalt halted.freeDups) halted)))

/-- WINDOW-OPEN advances the night, starts the window timer, forms the share from the backlog of tonight and the peer backlog total, sets
both budgets to it, clears the debt and offers SHARE; an open window is WRONG_STATE (R155, R159, R161). The closing of the window, by
WINDOW-CLOSE or by the limit: entries of tonight take next-night parity, the share and budgets become 0, SHARE(0) is offered and
WINDOW_CLOSED tells the reason and the entries carried; the debt stays. A closed window is WRONG_STATE (R156, R157, R160). -/
def Obligations.WindowOpensAndCloses : Prop :=
  (∀ s : State, s.takesRequests →
     let t := s.atTaking
     let night := t.dup.night + 1
     let tonight := t.dup.queue.filter fun q => q.parity == night.getLsbD 0
     let b := (tonight.map fun q => q.work.units).sum
     let share := if b = 0 then 0 else max 1 (s.settings.capacity * b / (b + s.peerTotal))
     let opened : State := { t with dup := { t.dup with
       night := night, window := some s.settings.windowLimit, debt := 0, share := share, frameBudget := share, remaining := share } }
     (t.dup.window.isSome = true → exec .windowOpen s = .next (State.answer .wrongState 83 false (.windowOpen none 0 0 0) t)) ∧
     (t.dup.window = none →
       exec .windowOpen s = .next (State.answer .ok 83 false (.windowOpen (some night) b share tonight.length) (opened.offerShare b)))) ∧
  (∀ s : State,
     let closed := fun (why : CloseReason) (t : State) =>
       let tonight := fun q : DupEntry => q.parity == t.dup.night.getLsbD 0
       State.raise .windowClosed (.station t.station) (some (.window why (t.dup.queue.filter tonight).length))
         (State.offerShare 0 { t with dup := { t.dup with
           queue := t.dup.queue.map fun q => if tonight q then { q with parity := !t.dup.night.getLsbD 0 } else q
           window := none, share := 0, frameBudget := 0, remaining := 0 } })
     (s.takesRequests → s.atTaking.dup.window.isSome = true →
       exec .windowClose s = .next (State.answer .ok 84 false
         (.windowClose (s.atTaking.dup.queue.filter fun q => q.parity == s.atTaking.dup.night.getLsbD 0).length)
         (closed .request s.atTaking))) ∧
     (s.takesRequests → s.atTaking.dup.window = none →
       exec .windowClose s = .next (State.answer .wrongState 84 false (.windowClose 0) s.atTaking)) ∧
     (s.dup.window = some 0 → exec .windowLimitExpiry s = .next (closed .limit s)))

/-- GRANT-TAKE in the order of its checks: CLOSED, GRANTS_FULL, EMPTY; a HALT closes the window; an END waits for its epoch's grants in
flight; an EXTENT is granted within the remaining budget, or whole over an unspent budget without debt, which it then overdraws (R163, R164,
R165). -/
def Obligations.GrantTakeGrantsTheHead : Prop :=
  ∀ s : State, s.takesRequests →
    let t := s.atTaking
    let refused := fun why : NoGrant => exec .grantTake s = .next (State.answer .noGrant 85 false
      (.grantTake (some why) t.dup.remaining t.dup.frameBudget t.dup.debt t.dup.tonight.length 0 none) t)
    (t.dup.window = none → refused .closed) ∧
    (t.dup.window.isSome = true → (∀ i : Fin 8, (t.grantSlot i).grant.isSome = true) → refused .grantsFull) ∧
    ∀ i : Fin 8, t.dup.window.isSome = true → (t.grantSlot i).grant = none → (∀ k : Fin 8, k < i → (t.grantSlot k).grant.isSome = true) →
      (t.dup.tonight = [] → refused .empty) ∧
      ∀ (q : DupEntry) (rest : List DupEntry), t.dup.tonight ≠ [] → t.dup.queue = q :: rest →
        let gen := (t.grantSlot i).gen + 1
        let granted := fun (d : Dup) => ({ t.modifyWorkEpoch q.work
            (fun c => { c with queuedCount := c.queuedCount - 1, inFlight := c.inFlight + 1 }) with
          dup := { d with
            queue := rest
            grants := t.dup.grants.set i.val
              { gen := gen, grant := some { work := q.work, retries := q.retries, order := t.dup.nextOrder } } } } : State)
        let takes := fun (d : Dup) => exec .grantTake s = .next (State.answer .ok 85 false
          (.grantTake none d.remaining d.frameBudget d.debt (granted d).dup.tonight.length 0
            (some (gen.val * 8 + i.val, q.work, q.retries))) (granted d))
        (q.work = .halt →
          let removed : State := { t with dup := { t.dup with queue := rest } }
          let closed := removed.closeWindow .halt
          exec .grantTake s = .next (State.answer .halted 85 false
            (.grantTake none 0 0 t.dup.debt 0 removed.dup.tonight.length none) closed)) ∧
        (∀ e : Epoch, q.work = .endMark e →
          (0 < ((t.findEpoch e).map CatEntry.inFlight).getD 0 → refused .order) ∧
          (((t.findEpoch e).map CatEntry.inFlight).getD 0 = 0 → takes t.dup)) ∧
        (∀ (e : Epoch) (token : Token) (units : Nat), q.work = .extent e token units →
          (units ≤ t.dup.remaining → takes { t.dup with remaining := t.dup.remaining - units }) ∧
          (t.dup.remaining < units → t.dup.remaining = t.dup.frameBudget → t.dup.debt = 0 → 0 < t.dup.frameBudget →
            takes { t.dup with debt := units - t.dup.remaining, remaining := 0 }) ∧
          (t.dup.remaining < units → t.dup.remaining ≠ t.dup.frameBudget ∨ t.dup.debt ≠ 0 ∨ t.dup.frameBudget = 0 → refused .budget))

/-- GRANT-DONE frees the slot: after a success an END completes its epoch as SENT or INCOMPLETE; a first or second failure returns the
entry; a third drops it with DUP_EXTENT_FAILED. An unknown handle, or one above 63, changes nothing but the reply (R162, R166, R167). A
returned entry: a queued EXTENT of the same epoch and token absorbs it; else it goes to the head, of tonight while the window is open and of
the next night while it is closed, and its epoch's queued count rises (R168). -/
def Obligations.GrantsEndAndEntriesReturn : Prop :=
  (∀ (s : State) (handle : Nat) (failed : Bool), s.takesRequests →
     let t := s.atTaking
     let slot : Fin 8 := Fin.ofNat 8 (handle % 8)
     let grant := if (t.grantSlot slot).gen = Fin.ofNat 8 (handle / 8) then (t.grantSlot slot).grant else none
     let answers := fun (status : Status) (body : ReplyBody) (u : State) =>
       exec (.grantDone handle failed) s = .next (State.answer status 86 false body u)
     (63 < handle → answers .badRequest .empty t) ∧
     (handle ≤ 63 → grant = none → answers .noSuchHandle (.grantDone none 0 none none) t) ∧
     ∀ g : Grant, handle ≤ 63 → grant = some g →
       let freed : State := { t.modifyWorkEpoch g.work (fun c => { c with inFlight := c.inFlight - 1 }) with
         dup := { t.dup with grants := t.dup.grants.set slot.val { gen := (t.grantSlot slot).gen, grant := none } } }
       let after := fun u : State => match g.work with
         | .extent e _ _ => (u.findEpoch e).map CatEntry.dupState
         | .endMark e => (u.findEpoch e).map CatEntry.dupState
         | .halt => none
       (∀ (e : Epoch) (token : Token) (units : Nat), failed = false → g.work = .extent e token units →
         answers .ok (.grantDone (some .done) 0 (some g.work) (after freed)) freed) ∧
       (∀ e : Epoch, failed = false → g.work = .endMark e →
         let u := freed.modifyEpoch e fun c => { c with dupState := if c.failedExtent then .incomplete else .sent }
         answers .ok (.grantDone (some .done) 0 (some g.work) (after u)) u) ∧
       (failed = true → g.retries < 2 →
         let u := freed.returnEntry g.work (g.retries + 1)
         answers .ok (.grantDone (some .returned) (g.retries + 1) (some g.work) (after u)) u) ∧
       (∀ (e : Epoch) (token : Token) (units : Nat), failed = true → 2 ≤ g.retries → g.work = .extent e token units →
         let u := (freed.modifyEpoch e fun c => { c with failedExtent := true }).raise .dupExtentFailed (.epoch e) (some (.token token))
         answers .ok (.grantDone (some .dropped) 0 (some g.work) (after u)) u) ∧
       (∀ e : Epoch, failed = true → 2 ≤ g.retries → g.work = .endMark e →
         let u := (freed.modifyEpoch e fun c => { c with failedExtent := true, dupState := .incomplete }).raise .dupExtentFailed (.epoch e)
           (some .endMark)
         answers .ok (.grantDone (some .dropped) 0 (some g.work) (after u)) u)) ∧
  (∀ (s : State) (e : Epoch) (token : Token) (units retries : Nat),
     let parity := if s.dup.window.isSome then s.dup.night.getLsbD 0 else !s.dup.night.getLsbD 0
     let counted := modifyFirst (fun c : CatEntry => c.epoch == e) (fun c => { c with queuedCount := c.queuedCount + 1 }) s.cat
     let returned := fun work : DupWork => ({ s with
       cat := counted
       dup := { s.dup with queue := { work := work, parity := parity, retries := retries } :: s.dup.queue } } : State)
     (s.dup.queue.any (isExtent e token) = false → s.returnEntry (.extent e token units) retries = returned (.extent e token units)) ∧
     (s.dup.queue.any (isExtent e token) = true → s.returnEntry (.extent e token units) retries =
       { s with dup := { s.dup with queue := modifyFirst (isExtent e token) (absorb units) s.dup.queue } }) ∧
     s.returnEntry (.endMark e) retries = returned (.endMark e))

/-! ### The Peer Line (chapter 3) -/

/-- The outbound queue's offers (R59): a notice enters in order of priority and then age; one whose key is queued is replaced, in place with
attempt count 0 or as the successor of the notice in transmission (R60); without room it is refused. An epoch notice already queued is taken
as that one, else appended; in a queue of 8 it displaces the first that is not in transmission of the newest USAGE, the PRESENCE, the SHARE
and the oldest epoch notice (R61; where the newest USAGE is in transmission the choice of the next is log 14), and a waiting final notice
may take a place before the displaced one is reported. A notice that is queued and not in transmission is withdrawn (R61, R36). -/
def Obligations.OutboundOffersAppendReplaceOrDisplace : Prop :=
  (∀ (q : QNotice) (a b : List QNotice), (∀ x ∈ a, x.notice.priority ≤ q.notice.priority) →
     (∀ x, b.head? = some x → q.notice.priority < x.notice.priority) → insertNotice q (a ++ b) = a ++ q :: b) ∧
  (∀ (o : Outbound) (same : Notice → Bool) (n : Notice) (final : Bool),
     ((∃ q ∈ o.queue, same q.notice = true ∧ q.sending = true) →
       o.replace same n final = { o with successor := some { notice := n, final := final } }) ∧
     ((∀ q ∈ o.queue, same q.notice = true → q.sending = false) →
       ∀ (a b : List QNotice) (q : QNotice), o.queue = a ++ q :: b → same q.notice = true → (∀ x ∈ a, same x.notice = false) →
         o.replace same n final = { o with queue := a ++ { q with notice := n, attempts := 0, final := final } :: b })) ∧
  (∀ s : State,
     let usages := (s.out.queue.filter fun q => q.notice.isUsage).length
     let fresh := fun n : Notice => ({ notice := n, attempts := 0, sending := false, final := false } : QNotice)
     let offered := fun (same : Notice → Bool) (room : Prop) (n : Notice) (t : State) =>
       ((∃ q ∈ s.out.queue, same q.notice = true) → t = { s with out := s.out.replace same n false }) ∧
       ((∀ q ∈ s.out.queue, same q.notice = false) →
         (room → t = { s with out := { s.out with queue := insertNotice (fresh n) s.out.queue } }) ∧ (¬ room → t = s))
     (∀ user units : Nat,
       offered (Notice.isUsageOf user) (usages < 4 ∧ s.out.queue.length < 8) (.usage user units) (s.offerUsage user units)) ∧
     (∀ b : Nat, offered Notice.isShare (s.out.queue.length < 8) (.share b) (s.offerShare b)) ∧
     offered Notice.isPresence (s.out.queue.length < 8) (.presence s.latest) s.offerPresence ∧
     (∀ n : Notice,
       ((∃ q ∈ s.out.queue, q.notice = n) → s.offerEpoch n = s) ∧
       ((∀ q ∈ s.out.queue, q.notice ≠ n) →
         (s.out.queue.length < 8 → s.offerEpoch n = { s with out := { s.out with queue := insertNotice (fresh n) s.out.queue } }) ∧
         (8 ≤ s.out.queue.length → ∀ (a b : List QNotice) (q : QNotice), s.out.queue = a ++ q :: b → q ∉ a → q.sending = false →
           let waits := fun (p : Notice → Bool) (l : List QNotice) => ∀ x ∈ l, ¬(p x.notice = true ∧ x.sending = false)
           let l := s.out.queue
           q.notice.isUsage = true ∧ waits Notice.isUsage b ∨
             waits Notice.isUsage l ∧ q.notice.isPresence = true ∧ waits Notice.isPresence a ∨
             waits Notice.isUsage l ∧ waits Notice.isPresence l ∧ q.notice.isShare = true ∧ waits Notice.isShare a ∨
             waits Notice.isUsage l ∧ waits Notice.isPresence l ∧ waits Notice.isShare l ∧ waits Notice.isEpoch a →
           s.offerEpoch n = State.depart q .displaced
             (State.placeWaiting { s with out := { s.out with queue := insertNotice (fresh n) (a ++ b) } })))) ∧
     ∀ p : Notice → Bool,
       ((∀ q ∈ s.out.queue, p q.notice = true → q.sending = true) → s.withdraw p = s) ∧
       ∀ (a b : List QNotice) (q : QNotice), s.out.queue = a ++ q :: b → p q.notice = true → q.sending = false →
         (∀ x ∈ a, p x.notice = true → x.sending = true) →
         s.withdraw p = (State.depart q .withdrawn { s with out := { s.out with queue := a ++ b } }).placeWaiting)

/-- The stop of the own frame acts on the slots: DELIVERED; UNHEARD without a PRESENT peer is NO_LISTENER; else the attempt counts, and the
third is DROPPED. A notice with a successor leaves SUPERSEDED whatever the outcome, and the successor is appended. The own-frame flag is set
and the idle gap begins (R57, R60, R63, R74). That the waiting final notices are tried also where the notice stays queued is the model's
reading (R36, log 15). What a departure and a try do is stated by NoticeEndsFreeRecordsAndOweReports and
RetireFreesOrWaitsForItsFinalNotice. -/
def Obligations.SendAttemptsEndByTheirSlots : Prop :=
  ∀ (s : State) (slotA slotR : Bool) (a b : List QNotice) (q : QNotice),
    let t := s.settle
    t.line.state = .sending → t.out.queue = a ++ q :: b → (∀ x ∈ a, x.sending = false) → q.sending = true →
    let ends := fun u : State => exec (.sendAttemptEnd slotA slotR) s = .next { u with
      line := { state := .busy .gap, rx := .noFrame, sendBits := [] }
      ownFrame := true }
    let left := fun e : NoticeEnd => (State.depart q e { t with out := { queue := a ++ b, successor := none } }).placeWaiting
    let again := { q with attempts := q.attempts + 1, sending := false }
    let unheardAlone := slotA = false ∧ slotR = false ∧ ∀ p ∈ t.peers, p.state ≠ .present
    (t.out.successor = none →
      (slotA = true → slotR = false → ends (left .delivered)) ∧
      (unheardAlone → ends (left .noListener)) ∧
      (¬(slotA = true ∧ slotR = false) → ¬unheardAlone →
        (q.attempts < 2 → ends (State.placeWaiting { t with out := { t.out with queue := a ++ again :: b } })) ∧
        (2 ≤ q.attempts → ends (left .dropped)))) ∧
    ∀ x : Successor, t.out.successor = some x →
      ends (State.depart q .superseded { t with out := {
        queue := insertNotice { notice := x.notice, attempts := 0, sending := false, final := x.final } (a ++ b)
        successor := none } }).placeWaiting

/-- Attempts that end without the own stop: lost in the header, abandoned at another station's start or stop, met a station-number clash, or
cut by a stuck line. The notice keeps its place and attempt count, or leaves SUPERSEDED when it has a successor; at a clash it leaves with
CLASH or SUPERSEDED and ADDRESS_CLASH is raised (R50, R51, R60, R65). That a start met is received and a stop met begins the idle gap is the
model's reading (log 17), and so is that waiting final notices are not tried where the notice keeps its place (R36, log 15). -/
def Obligations.AttemptsWithoutAStopAreNotCounted : Prop :=
  ∀ (s : State) (a b : List QNotice) (q : QNotice),
    let t := s.settle
    t.line.state = .sending → t.out.queue = a ++ q :: b → (∀ x ∈ a, x.sending = false) → q.sending = true →
    let superseded := fun x : Successor =>
      (State.depart q .superseded { t with out := {
        queue := insertNotice { notice := x.notice, attempts := 0, sending := false, final := x.final } (a ++ b)
        successor := none } }).placeWaiting
    let lost := match t.out.successor with
      | none => { t with out := { t.out with queue := a ++ { q with sending := false } :: b } }
      | some x => superseded x
    let clashed := match t.out.successor with
      | none => (State.depart q .clash { t with out := { queue := a ++ b, successor := none } }).placeWaiting
      | some x => superseded x
    let waits := fun (u : State) (why : BusyWhy) (rx : Rx) => ({ u with line := { state := .busy why, rx := rx, sendBits := [] } } : State)
    (∀ bit : Nat, t.line.sendBits[bit]? = some true →
      (bit < 10 → exec (.arbitrationLost bit) s = .next (waits lost .frame (.receiving (t.line.sendBits.take bit ++ [false])))) ∧
      (10 ≤ bit → exec (.stationNumberClash bit) s = .next
        ((waits clashed .frame .noFrame).raise .addressClash (.station s.station) (some (.noticeKind q.notice.code))))) ∧
    exec (.attemptAbandoned true) s = .next (waits lost .frame (.receiving [])) ∧
    exec (.attemptAbandoned false) s = .next (waits lost .gap .noFrame) ∧
    ∀ w : Wires, w = .dl ∨ (∀ st x, t.line.rx ≠ .stretching st x) →
      exec (.lineStuck w) s = .next (State.raise .lineStuck (.station s.station) (some (.wires w)) { lost with
        recv := lost.recv.filter fun r => r.available
        line := { state := .stuck, rx := .noFrame, sendBits := [] } })

/-- The verdict at the end of the check, in the order of R53: refused on the check, malformed, discarded with ADDRESS_CLASH for the own
number, taken into the receive queue, or stretched when the queue is full. A frame of unknown kind is ignored (R52, R53). A sampled header
must agree with the bits already sampled as a transmitter (R50). A stretch holds CL and ends with slot A in a freed entry, or after 2 ms
with slot R and the notice discarded (R55, R56). -/
def Obligations.VerdictsAndStretches : Prop :=
  (∀ (z : State) (seen : List Bool) (f : SampledFrame),
     let s := z.settle
     s.line.rx = .receiving seen → seen <+: sampledHeader f →
     let judged := fun (slot : Option Slot) (t : State) =>
       exec (.noticeVerdict f) z = .next { t with line := { t.line with rx := .judged slot } }
     (readNotice f.kind f.payload = none → judged none s) ∧
     ∀ n : Notice, readNotice f.kind f.payload = some n →
       (checkPasses f = false → judged (some .slotR) s) ∧
       (checkPasses f = true → noticeWellFormed f n = false → judged (some .slotR) s) ∧
       (checkPasses f = true → noticeWellFormed f n = true →
         (f.station = s.station →
           judged none (s.raise .addressClash (.station s.station) (some (.noticeKind n.code)))) ∧
         (f.station ≠ s.station → s.recv.length < 4 →
           judged (some .slotA) { s with recv := s.recv ++ [{ sender := f.station, notice := n, available := false }] }) ∧
         (f.station ≠ s.station → 4 ≤ s.recv.length →
           exec (.noticeVerdict f) z = .next { s with line := { s.line with rx := .stretching f.station n } }))) ∧
  (∀ (s : State) (sender : Station) (n : Notice), s.line.rx = .stretching sender n →
     let slotted := fun (slot : Slot) (t : State) =>
       ({ t with line := { t.line with rx := .judged (some slot) } } : State)
     s.stretchesCL = true ∧ s.slotDriven = none ∧
     (s.recv.length < 4 →
       exec .stretchEntryFreed s = .next
         (slotted .slotA { s with recv := s.recv ++ [{ sender := sender, notice := n, available := false }] })) ∧
     (4 ≤ s.recv.length → exec .stretchTimeout s = .next (slotted .slotR s)) ∧
     ∀ slot : Slot, (slotted slot s).stretchesCL = false ∧ (slotted slot s).slotDriven = some slot)

/-- At the stop of its frame a taken notice becomes available and its sender is heard: an ABSENT entry joins, a GONE one returns and cuts
short a drop sweep for it, each with a new re-report round; a step of that sweep already being served completes (R62, R69, R86, R90).
Whether it is being served is the command's operand, and a served step with no record left changes nothing (the model's choice, log 10). That
the WATCH cause of that step stands after PEER_RETURNED and before DROP_CUT_SHORT is the model's choice too (log 42). -/
def Obligations.AvailableNoticesAreHeard : Prop :=
  ∀ (s : State) (stepServed : Bool) (r : RxNotice),
    let t := s.settle
    t.recv.find? (fun x => !x.available) = some r → r.sender ≠ t.station →
    let p := t.peer r.sender
    let heard : State := { t with
      recv := t.recv.map fun x => { x with available := true }
      line := { state := .busy .gap, rx := .noFrame, sendBits := [] }
      peers := t.peers.set r.sender.val { p with state := .present, framesSince := 0 } }
    let joins := fun u : State =>
      exec (.noticeAvailable stepServed) s = .next { u with digest := { u.digest with round := t.users.length, quiet := 0 } }
    let returned := heard.raise .peerReturned (.station r.sender) none
    (p.state = .present → exec (.noticeAvailable stepServed) s = .next heard) ∧
    (p.state = .absent → joins (heard.raise .peerJoined (.station r.sender) none)) ∧
    (p.state = .gone →
      ((∀ position removed waiting, t.sweep ≠ .drop r.sender position removed waiting) → joins returned) ∧
      ∀ (position : Option Nat) (removed : Nat) (waiting : Bool), t.sweep = .drop r.sender position removed waiting →
        let cut := fun (u : State) (count : Nat) =>
          ({ u.raise .dropCutShort (.station r.sender) (some (.number count)) with sweep := .idle } : State)
        (stepServed = false ∨ t.nextUser position = none → joins (cut returned removed)) ∧
        ∀ u : UserRec, stepServed = true → t.nextUser position = some u →
          joins (cut (returned.removeStation r.sender u) (removed + if u.remote.any (fun x => x.station == r.sender) then 1 else 0)))

/-- A station with an IDLE line and a queued notice starts to send the head of its outbound queue, with the bits of R47; in every other case
nothing starts (R49, log 3). Another station's start begins the reception of a frame from an IDLE line and inside any BUSY, the own stretch
apart. A start or stop inside a frame, and clocking beyond slot R, break it: a notice taken and not yet available is removed. A fall of CL on
an IDLE line or in the idle gap that is no start is stray clocking, and the line is BUSY (R49, R52, R54, R62, R64, R46). -/
def Obligations.StartsAndBreaksOfFrames : Prop :=
  (∀ s : State,
     let t := s.settle
     (∀ (q : QNotice) (rest : List QNotice), t.line.state = .idle → t.out.queue = q :: rest →
       exec .noticeSendStart s = .next { t with
         out := { t.out with queue := { q with sending := true } :: rest }
         line := { state := .sending, rx := .noFrame, sendBits := frameBits s.station q.notice } }) ∧
     (t.line.state ≠ .idle ∨ t.out.queue = [] → exec .noticeSendStart s = .next s)) ∧
  (∀ s : State,
       let dropped := s.recv.filter fun r => r.available
       let waits := fun (why : BusyWhy) (rx : Rx) =>
         ({ s with recv := dropped, line := { state := .busy why, rx := rx, sendBits := [] } } : State)
       (s.line.state = .idle ∨ (∃ why, s.line.state = .busy why) ∧ (∀ st n, s.line.rx ≠ .stretching st n) →
         exec .anotherStationStart s = .next (waits .frame (.receiving []))) ∧
       ((∃ seen, s.line.rx = .receiving seen) ∨ (∃ slot, s.line.rx = .judged slot) →
         exec (.frameBroken .byStart) s = .next (waits .frame (.receiving [])) ∧
         exec (.frameBroken .byStop) s = .next (waits .gap .noFrame) ∧
         exec (.frameBroken .overlong) s = .next (waits .frame .noFrame)) ∧
       (s.line.state = .idle ∨ s.line.state = .busy .gap →
         exec .strayClocking s = .next { s with line := { state := .busy .stray, rx := .noFrame, sendBits := [] } }))

/-- The ends of BUSY and STUCK: the idle gap after a stop, 12 bit times of attachment, 1 ms of high wires (which discards a frame left
without a stop), and LINE_RESTORED. A wire low for more than 20 ms makes the line STUCK with LINE_STUCK, and the frame in reception is
discarded; a DETACHED or STUCK line measures nothing, and CL is not counted while the own stretch holds it (R46, R54, R63 to R66; no change
then is log 3 and log 41). -/
def Obligations.LineStatesEndByTheirEvents : Prop :=
  ∀ s : State,
    let line := fun (state : LineState) => ({ state := state, rx := .noFrame, sendBits := [] } : Line)
    let kept := s.recv.filter fun r => r.available
    (s.line.state = .busy .gap ∨ s.line.state = .busy .stray ∨
        s.line.state = .busy .frame ∧ (s.line.rx = .noFrame ∨ (∃ slot, s.line.rx = .judged slot) ∧ ∀ r ∈ s.recv, r.available = true) →
      exec .idleGapEnd s = .next { s with line := line .idle }) ∧
    (s.line.state = .busy .attachment → exec .attachmentEnd s = .next { s with line := line .idle }) ∧
    ((∃ why, s.line.state = .busy why) → (∀ st n, s.line.rx ≠ .stretching st n) →
      exec .busyTimeout s = .next { s with recv := kept, line := line .idle }) ∧
    let t := s.settle
    (t.line.state = .stuck →
      exec .lineRestored s = .next (State.raise .lineRestored (.station s.station) none { t with line := line .idle })) ∧
    ∀ w : Wires,
      (t.line.state = .idle ∨ (∃ why, t.line.state = .busy why) → w = .dl ∨ (∀ st n, t.line.rx ≠ .stretching st n) →
        exec (.lineStuck w) s = .next (State.raise .lineStuck (.station s.station) (some (.wires w))
          { t with recv := t.recv.filter fun r => r.available, line := line .stuck })) ∧
      (w ≠ .dl → (∃ st n, t.line.rx = .stretching st n) → exec (.lineStuck w) s = .next s) ∧
      (t.line.state = .detached ∨ t.line.state = .stuck → exec (.lineStuck w) s = .next s)

/-! ### Frames and the Timebase (chapter 9) -/

/-- A frame boundary: the frame number advances and the timer returns to 0; a pending switch-back is taken or fails; the peer entries age
after the peer backlog total is formed from them; the ask, close and idle counts move; the grace scan starts or owes one more; the batch
count and the own-frame flag are cleared (R18, R72, R73, R74, R83, R110, R111, R141, R173, R174, R177). A window that closes at once raises
WINDOW_CLOSED with LIMIT and the entries carried (R157, R160). That a cause of the boundary carries the new frame number, and that
RETRY_FAILED comes before WINDOW_CLOSED, are the model's (log 19, log 37). -/
def Obligations.BoundariesCountEveryBlock : Prop :=
  ∀ (s : State) (windowFirst : Bool), s.tb.source ≠ .unclocked →
    let t := s.settle
    ∃ u, exec (.frameBoundary windowFirst) s = .next u ∧
      u.tb = { s.tb with
        timer := 0
        frame := s.tb.frame + 1
        switchBack := false
        source := if s.tb.switchBack ∧ s.tb.refPresent then .reference else s.tb.source } ∧
      (∀ st : Station, st ≠ s.station → t.peers.length = 16 → u.peer st = { t.peer st with
        framesSince := min 255 ((t.peer st).framesSince + 1)
        shareAge := min 255 ((t.peer st).shareAge + 1) }) ∧
      (t.peers.length = 16 → u.peer s.station = t.peer s.station) ∧
      u.peerTotal = ((t.peers.filter fun p =>
        decide (p.state = .present ∧ min 255 (p.framesSince + 1) < s.settings.goneAge ∧ p.shareAge ≤ 1)).map fun p => p.backlog.getD 0).sum ∧
      u.cat = t.cat.map (fun c => { c with timer := c.timer.map fun k => k - 1 }) ∧
      (∀ i : Fin 8, u.jobSlot i = { t.jobSlot i with
        job := (t.jobSlot i).job.map fun j => if j.releaseWaiting then j else { j with idle := j.idle + 1 } }) ∧
      u.scan =
        (if t.scan.running then { t.scan with owed := min 255 (t.scan.owed + 1) }
          else { running := !t.users.isEmpty, cursor := none, owed := 0 }) ∧
      u.digest = { t.digest with batch := 0 } ∧ u.ownFrame = false ∧
      (let failed := if s.tb.switchBack = true ∧ s.tb.refPresent = false then
           (State.raise .timebaseFallback (.station s.station) (some (.fallback .retryFailed))
             { t with tb := { t.tb with frame := s.tb.frame + 1 } }).causes
         else t.causes
       (t.dup.window ≠ some 1 ∨ windowFirst = false → u.causes = failed) ∧
       (t.dup.window = some 1 → windowFirst = true →
         u.causes = raiseIn (s.tb.frame + 1)
           { kind := .windowClosed, subject := .station s.station
             value := some (.window .limit (t.dup.queue.filter fun q => q.parity == t.dup.night.getLsbD 0).length) } failed)) ∧
      u = { t with
        tb := u.tb, peers := u.peers, peerTotal := u.peerTotal, cat := u.cat, jobs := u.jobs, scan := u.scan, digest := u.digest
        ownFrame := u.ownFrame, causes := u.causes, out := u.out, dup := u.dup }

/-- The window at a boundary: one frame less; at 0 it closes by LIMIT, at once or by its own row (log 6); else the share is formed anew, the
debt is repaid out of it and SHARE is offered. The beacon is offered when no own frame reached its stop. The order of the two offers is the
command's (log 32) (R74, R160, R161). That both come before the ask timer's withdrawal of the own
EPOCH-PROPOSE at the same boundary (R110, R100) is the model's choice (log 45). -/
def Obligations.BoundariesOfferTheBeaconAndTheShare : Prop :=
  ∀ (s : State) (windowFirst : Bool), s.tb.source ≠ .unclocked →
    let t := s.settle
    ∃ u, exec (.frameBoundary windowFirst) s = .next u ∧
      let b := (t.dup.tonight.map fun q => q.work.units).sum
      let share := if b = 0 then 0 else max 1 (s.settings.capacity * b / (b + u.peerTotal))
      let beacon := fun o : Outbound =>
        if t.ownFrame then o else o.offer Notice.isPresence (decide (o.queue.length < 8)) (.presence t.latest)
      let offers := fun (n : Notice) (o : Outbound) => o.offer Notice.isShare (decide (o.queue.length < 8)) n
      let both := fun share : Outbound → Outbound => if windowFirst then beacon (share t.out) else share (beacon t.out)
      (t.dup.window = none → u.dup = t.dup ∧ u.out = beacon t.out) ∧
      (∀ n : Nat, t.dup.window = some (n + 2) →
        u.dup = { t.dup with
          window := some (n + 1), share := share, frameBudget := share - min t.dup.debt share
          remaining := share - min t.dup.debt share, debt := t.dup.debt - min t.dup.debt share } ∧
        u.out = both (offers (.share b))) ∧
      (t.dup.window = some 1 → windowFirst = false →
        u.dup = { t.dup with window := some 0 } ∧ u.out = beacon t.out) ∧
      (t.dup.window = some 1 → windowFirst = true →
        u.dup = { t.dup with
          queue := t.dup.queue.map fun q =>
            if q.parity == t.dup.night.getLsbD 0 then { q with parity := !t.dup.night.getLsbD 0 } else q
          window := none, share := 0, frameBudget := 0, remaining := 0 } ∧
        u.out = beacon (offers (.share 0) t.out))

/-- A lost reference falls back: the count advances by 500 on the internal oscillator with TIMEBASE_FALLBACK, and a boundary comes at once
when the advanced count reaches the frame's length. Without a fallback the monitor alone changes, and no boundary comes with the source NONE
(R172, R173, R175). The count as an operand, and the cause before the boundary, are the model's (log 18). -/
def Obligations.LostReferencesFallBack : Prop :=
  ∀ (s : State) (windowFirst : Bool),
    (∀ count : Nat, s.tb.source = .reference → s.tb.timer ≤ count → count < s.settings.frameLength * 10000000 →
      let fallen : State := State.raise .timebaseFallback (.station s.station) (some (.fallback .lost))
        { s.settle with tb := { s.tb with source := .internal, refPresent := false, timer := count + 500 } }
      (count + 500 < s.settings.frameLength * 10000000 → exec (.referenceFallback count windowFirst) s = .next fallen) ∧
      (s.settings.frameLength * 10000000 ≤ count + 500 →
        exec (.referenceFallback count windowFirst) s = exec (.frameBoundary windowFirst) fallen)) ∧
    exec .referenceEdgeReturns s = .next { s with tb := { s.tb with refPresent := true } } ∧
    (s.tb.source ≠ .reference → exec .referenceMonitorAbsent s = .next { s with tb := { s.tb with refPresent := false } }) ∧
    (s.tb.source = .unclocked → exec (.frameBoundary windowFirst) s = .next s)

/-! ### Invariants -/

/-- The machine after reset: the power-on values, with no reset in progress. Station 0 and the absent reference are the model's choices (log
1, log 2). The machine after reset meets every invariant below. -/
def Obligations.ResetStateHoldsPowerOnValuesAndInvariants : Prop :=
  (State.reset.atPowerOnValues ∧ State.reset.resetLow = false ∧ State.reset.station = 0 ∧ State.reset.tb.refPresent = false ∧
   State.reset.pending = []) ∧
  (State.reset.causesLawful ∧ State.reset.usersLawful ∧ State.reset.queuesLawful ∧ State.reset.tablesLawful ∧
   State.reset.sizesLawful ∧ State.reset.noticesLawful ∧ State.reset.ledgersLawful)

/-- Every step keeps the Cause List lawful: at most 32 records, one for each kind and subject, every MIXED record with subject SEVERAL
(R193, R197). -/
def Obligations.EveryStepKeepsTheCauseListLawful : Prop := Kept State.causesLawful

/-- Every step keeps the user records lawful: in ascending order of user number, soft at most hard, each state in agreement with its
estimate, at most 4 remote entries (R1, R3, R4, R10). -/
def Obligations.EveryStepKeepsUserRecordsLawful : Prop := Kept State.usersLawful

/-- Every step keeps the notice queues within 8 and 4 entries (R59, R62), the fixed tables at their sizes (R21, R68, R133, R162), and the user
records, hold records and duplication work within the configured sizes, with a debt below 4,096 AU (R1, R117, R148, R151, R164). -/
def Obligations.EveryStepKeepsQueuesAndTablesLawful : Prop := Kept fun s => s.queuesLawful ∧ s.tablesLawful ∧ s.sizesLawful

/-- Every step keeps the outbound queue in order of priority and within all its bounds: 8 notices, 4 USAGE, one USAGE for a user, one SHARE,
one PRESENCE; one notice in transmission while the station sends, and a successor only of that one; a frame in reception only in BUSY (R49,
R53, R59, R60, R62, R63). -/
def Obligations.EveryStepKeepsNoticesLawful : Prop := Kept State.noticesLawful

/-- Every step keeps the catalogue within 64 entries in ascending epoch order, none newer than the latest and at most one ASKED (R94, R95),
and the ledgers in agreement: held space with the hold records, for each user and each epoch; reserved space and pins with the ACTIVE jobs
(R118, R120, R127, R136, R139, R140, 00 section 2.4). -/
def Obligations.EveryStepKeepsLedgersLawful : Prop := Kept State.ledgersLawful
end

