-- ==== Sys2Proof/Laws/Lists.lean ====
section
/-! SUPPORT. What the list operations do: a change of one element, the record of a user, and the Cause List. -/

namespace Sys2Proof.Machine

section Modify

variable {α β : Type} (p : α → Bool) (f : α → α)

@[simp] theorem modifyFirst_length (l : List α) : (modifyFirst p f l).length = l.length := by
  induction l with
  | nil => rfl
  | cons x xs ih => by_cases h : p x <;> simp [modifyFirst, h, ih]

@[simp] theorem modifyLast_length (l : List α) : (modifyLast p f l).length = l.length := by simp [modifyLast]

/-- A change that keeps a figure of every element keeps the list of that figure. -/
theorem modifyFirst_map (g : α → β) (h : ∀ x, g (f x) = g x) (l : List α) : (modifyFirst p f l).map g = l.map g := by
  induction l with
  | nil => rfl
  | cons x xs ih => by_cases hx : p x <;> simp [modifyFirst, hx, ih, h]

/-- An element of the changed list is one of the list, or the change of one that meets `p`. -/
theorem mem_modifyFirst {l : List α} {y : α} (h : y ∈ modifyFirst p f l) : y ∈ l ∨ ∃ x ∈ l, p x = true ∧ y = f x := by
  induction l with
  | nil => exact .inl h
  | cons x xs ih =>
    by_cases hx : p x
    · simp only [modifyFirst, hx, if_true, List.mem_cons] at h
      rcases h with rfl | h
      · exact .inr ⟨x, by simp, hx, rfl⟩
      · exact .inl (by simp [h])
    · simp only [modifyFirst, hx, Bool.false_eq_true, if_false, List.mem_cons] at h
      rcases h with rfl | h
      · exact .inl (by simp)
      · rcases ih h with h | ⟨z, hz, hp, rfl⟩
        · exact .inl (by simp [h])
        · exact .inr ⟨z, by simp [hz], hp, rfl⟩

/-- Nothing changes when no element meets `p`. -/
theorem modifyFirst_of_not {l : List α} (h : ∀ x ∈ l, p x = false) : modifyFirst p f l = l := by
  induction l with
  | nil => rfl
  | cons x xs ih => simp [modifyFirst, h x (by simp), ih fun y hy => h y (by simp [hy])]

/-- Where the first element that meets `p` stands, the changed list differs in that place alone. -/
theorem modifyFirst_split {l : List α} (h : l.any p = true) :
    ∃ a x b, l = a ++ x :: b ∧ p x = true ∧ (∀ y ∈ a, p y = false) ∧ modifyFirst p f l = a ++ f x :: b := by
  induction l with
  | nil => simp at h
  | cons x xs ih =>
    by_cases hx : p x
    · exact ⟨[], x, xs, rfl, hx, by simp, by simp [modifyFirst, hx]⟩
    · simp only [List.any_cons, hx, Bool.false_or] at h
      obtain ⟨a, y, b, rfl, hy, ha, hm⟩ := ih h
      exact ⟨x :: a, y, b, rfl, hy, by simpa [hx] using ha, by simp [modifyFirst, hx, hm]⟩

/-- The same for the last element that meets `p`. -/
theorem modifyLast_split {l : List α} (h : l.any p = true) :
    ∃ a x b, l = a ++ x :: b ∧ p x = true ∧ (∀ y ∈ b, p y = false) ∧ modifyLast p f l = a ++ f x :: b := by
  have h' : l.reverse.any p = true := by simpa using h
  obtain ⟨a, x, b, hl, hx, ha, hm⟩ := modifyFirst_split p f h'
  refine ⟨b.reverse, x, a.reverse, ?_, hx, by simpa using ha, by simp [modifyLast, hm]⟩
  have := congrArg List.reverse hl
  simpa using this

end Modify

/-! ### The user table -/

@[simp] theorem putUser_length (u : UserRec) (l : List UserRec) : (putUser u l).length = l.length := by
  induction l with
  | nil => rfl
  | cons r rs ih => by_cases h : r.user == u.user <;> simp [putUser, h, ih]

/-- Replacing a record keeps the user numbers. -/
@[simp] theorem putUser_users (u : UserRec) (l : List UserRec) : (putUser u l).map UserRec.user = l.map UserRec.user := by
  induction l with
  | nil => rfl
  | cons r rs ih =>
    by_cases h : r.user = u.user
    · simp [putUser, h]
    · simp [putUser, h, ih]

/-- A record of the table after a replacement is the new one or an old one. -/
theorem mem_putUser {u r : UserRec} {l : List UserRec} (h : r ∈ putUser u l) : r = u ∨ r ∈ l := by
  induction l with
  | nil => exact .inr h
  | cons x xs ih =>
    by_cases hx : x.user = u.user
    · simp only [putUser, hx, beq_self_eq_true, if_true, List.mem_cons] at h
      rcases h with h | h <;> simp [h]
    · simp only [putUser, beq_iff_eq, hx, if_false, List.mem_cons] at h
      rcases h with h | h
      · simp [h]
      · rcases ih h with h | h <;> simp [h]

/-- The record found after a replacement: the new one for its own user, the old one for any other. -/
theorem find_putUser (u : UserRec) (n : Nat) (l : List UserRec) :
    (putUser u l).find? (fun r => r.user == n) =
      if u.user = n ∧ (l.find? (fun r => r.user == n)).isSome then some u else l.find? (fun r => r.user == n) := by
  induction l with
  | nil => simp [putUser]
  | cons x xs ih =>
    by_cases hx : x.user = u.user
    · by_cases hn : u.user = n
      · simp [putUser, hx, hn]
      · simp [putUser, hx, hn]
    · by_cases hn : u.user = n
      · subst hn
        simp [putUser, hx, ih]
      · by_cases hxn : x.user = n
        · have : n ≠ u.user := fun h => hn h.symm
          simp [putUser, hxn, hn, this]
        · simp [putUser, hx, hxn, hn, ih]

/-- The record found bears the user number asked for. -/
theorem findUser_user {s : State} {n : Nat} {u : UserRec} (h : s.findUser n = some u) : u.user = n := by
  have := List.find?_some h
  simpa using this

/-- A record that is found and not RETIRING. -/
theorem findActive_eq_some {s : State} {n : Nat} {u : UserRec} :
    s.findActive n = some u ↔ s.findUser n = some u ∧ u.state ≠ .retiring := by
  unfold State.findActive
  cases h : s.findUser n with
  | none => simp
  | some r =>
    by_cases hr : r.state = .retiring
    · simp only [hr, if_true, Option.some.injEq, false_iff, not_and, reduceCtorEq]
      rintro rfl
      simp [hr]
    · simp only [hr, if_false, Option.some.injEq]
      constructor
      · rintro rfl
        exact ⟨rfl, hr⟩
      · exact fun h => h.1

/-- The insertion keeps every other record and adds the new one. -/
theorem mem_insertUser {u r : UserRec} {l : List UserRec} : r ∈ insertUser u l ↔ r = u ∨ r ∈ l := by
  induction l with
  | nil => simp [insertUser]
  | cons x xs ih =>
    by_cases h : u.user < x.user
    · simp [insertUser, h]
    · simp only [insertUser, h, if_false, List.mem_cons, ih]
      exact or_left_comm

/-- The insertion of an absent user keeps the table ascending (R1). -/
theorem insertUser_sorted {u : UserRec} {l : List UserRec} (h : (l.map UserRec.user).Pairwise (· < ·))
    (hu : ∀ r ∈ l, r.user ≠ u.user) : ((insertUser u l).map UserRec.user).Pairwise (· < ·) := by
  induction l with
  | nil => simp [insertUser]
  | cons x xs ih =>
    have hc := List.pairwise_cons.1 (by simpa using h : (x.user :: xs.map UserRec.user).Pairwise (· < ·))
    by_cases hx : u.user < x.user
    · simp only [insertUser, hx, if_true, List.map_cons, List.pairwise_cons]
      refine ⟨?_, hc⟩
      intro n hn
      rcases List.mem_cons.1 hn with rfl | hn
      · exact hx
      · exact Nat.lt_trans hx (hc.1 n hn)
    · have hlt : x.user < u.user := Nat.lt_of_le_of_ne (Nat.le_of_not_lt hx) (hu x (by simp))
      simp only [insertUser, hx, if_false, List.map_cons, List.pairwise_cons]
      refine ⟨?_, ih hc.2 fun r hr => hu r (by simp [hr])⟩
      intro n hn
      obtain ⟨r, hr, rfl⟩ := List.mem_map.1 hn
      rcases mem_insertUser.1 hr with rfl | hr
      · exact hlt
      · exact hc.1 _ (List.mem_map_of_mem hr)

/-! ### Re-evaluation -/

/-- Re-evaluation writes the state alone (R10). -/
theorem reevaluate_eq (w g : Nat) (u : UserRec) : ∃ x, reevaluate w g u = { u with state := x } := by
  unfold reevaluate
  cases u.state <;> simp only [] <;> first | exact ⟨_, rfl⟩ | (split <;> exact ⟨_, rfl⟩)

/-- Re-evaluation leaves the estimate as it was: the state is no part of it (R6, R10). -/
@[simp] theorem estimate_reevaluate (w g : Nat) (u : UserRec) : estimate w (reevaluate w g u) = estimate w u := by
  obtain ⟨x, h⟩ := reevaluate_eq w g u
  rw [h]
  rfl

/-- Re-evaluation establishes the law of the state (R10). -/
theorem reevaluate_lawful (w g : Nat) (u : UserRec) : (reevaluate w g u).stateLawful w := by
  unfold UserRec.stateLawful
  rw [estimate_reevaluate]
  by_cases he : estimate w u ≤ u.soft <;> cases hs : u.state <;> simp [reevaluate, hs, he] <;> omega

/-! ### The Cause List -/

/-- Raising a cause never takes the list beyond 32 records (R193, R196, R197). -/
theorem raiseIn_length {f : FrameNo} {c : Cause} {l : List CauseRec} (h : l.length ≤ Config.causeSlots) :
    (raiseIn f c l).length ≤ Config.causeSlots := by
  unfold raiseIn
  split
  · simpa using h
  · split
    · simp only [List.length_append, List.length_singleton]; omega
    · split
      · simpa using h
      · split
        · simpa using h
        · split <;> simpa using h

/-- A list into which a cause has been raised is not empty, so ATTN is asserted (R198). -/
theorem raiseIn_ne_nil (f : FrameNo) (c : Cause) (l : List CauseRec) : raiseIn f c l ≠ [] := by
  intro h
  have hl : (raiseIn f c l).length = 0 := by simp [h]
  unfold raiseIn at hl
  split at hl
  · rename_i ha; simp at hl; subst hl; simp at ha
  · split at hl
    · simp at hl
    · rename_i hn
      have h0 : l.length = 0 := by
        split at hl
        · simpa using hl
        · split at hl
          · simpa using hl
          · split at hl <;> simpa using hl
      exact hn (by simp [h0, Config.causeSlots])

/-- READ-CAUSE removes at most one record (R199). -/
theorem dropNextCause_sublist (l : List CauseRec) : (dropNextCause l).Sublist l := by
  unfold dropNextCause
  split
  · exact List.eraseP_sublist
  · exact List.tail_sublist l

/-- A lawful list stays so when records leave it. -/
theorem CausesLawful.sublist {l m : List CauseRec} (h : CausesLawful l) (hm : m.Sublist l) : CausesLawful m :=
  ⟨Nat.le_trans hm.length_le h.1, h.2.1.sublist (hm.map _), fun r hr => h.2.2 r (hm.subset hr)⟩

end Sys2Proof.Machine
end

