-- ==== Sys2Proof/Laws/Causes.lean ====
section
/-! SUPPORT. Raising a cause keeps the Cause List lawful (R193, R195 to R197). -/

namespace Sys2Proof.Machine

/-- The kind and subject of a record. -/
def CauseRec.key (r : CauseRec) : CauseKind × Subject := (r.kind, r.subject)

/-- A record of a lawful list may be replaced by one of the same kind and subject, or of a kind and subject not in the list. -/
theorem CausesLawful.replace {a b : List CauseRec} {x y : CauseRec} (h : CausesLawful (a ++ x :: b))
    (hk : y.key = x.key ∨ ∀ r ∈ a ++ x :: b, r.key ≠ y.key) (hm : y.kind = .mixed → y.subject = .several) :
    CausesLawful (a ++ y :: b) := by
  obtain ⟨h1, h2, h3⟩ := h
  refine ⟨by simpa using h1, ?_, ?_⟩
  · change ((a ++ y :: b).map CauseRec.key).Nodup
    have h2' : ((a ++ x :: b).map CauseRec.key).Nodup := h2
    rcases hk with hk | hk
    · simpa [hk] using h2'
    · simp only [List.map_append, List.map_cons, List.nodup_append, List.nodup_cons] at h2' ⊢
      obtain ⟨ha, ⟨_, hb⟩, hd⟩ := h2'
      refine ⟨ha, ⟨?_, hb⟩, ?_⟩
      · intro hy
        obtain ⟨r, hr, hre⟩ := List.mem_map.1 hy
        exact hk r (by simp [hr]) hre
      · intro k hk' k' hk''
        rcases List.mem_cons.1 hk'' with rfl | hk''
        · intro heq
          obtain ⟨r, hr, rfl⟩ := List.mem_map.1 hk'
          exact hk r (by simp [hr]) heq
        · exact hd k hk' k' (by simp [hk''])
  · intro r hr
    rcases List.mem_append.1 hr with hr | hr
    · exact h3 r (by simp [hr])
    · rcases List.mem_cons.1 hr with rfl | hr
      · exact hm
      · exact h3 r (by simp [hr])

/-- Raising a cause keeps the list lawful. No block raises MIXED (R194). -/
theorem raiseIn_lawful {f : FrameNo} {c : Cause} {l : List CauseRec} (h : CausesLawful l) (hc : c.kind ≠ .mixed) :
    CausesLawful (raiseIn f c l) := by
  unfold raiseIn
  split
  · rename_i ha
    obtain ⟨a, x, b, rfl, hx, -, hm⟩ := modifyFirst_split _ (mergeSame f c) ha
    rw [hm]
    have hx := of_decide_eq_true hx
    exact h.replace (.inl rfl) fun hk => absurd (hx.1.symm.trans hk) hc
  · rename_i ha
    split
    · rename_i hl
      obtain ⟨h1, h2, h3⟩ := h
      refine ⟨by simp only [List.length_append, List.length_singleton]; omega, ?_, ?_⟩
      · change ((l ++ [newRecord f c]).map CauseRec.key).Nodup
        simp only [List.map_append, List.map_cons, List.map_nil, List.nodup_append, List.mem_singleton]
        refine ⟨h2, by simp, ?_⟩
        rintro k hk _ rfl rfl
        obtain ⟨r, hr, hre⟩ := List.mem_map.1 hk
        apply ha
        simp only [CauseRec.key, newRecord, Prod.mk.injEq] at hre
        exact List.any_eq_true.2 ⟨r, hr, by simp [hre]⟩
      · intro r hr
        rcases List.mem_append.1 hr with hr | hr
        · exact h3 r hr
        · rw [List.mem_singleton.1 hr]
          exact fun hk => absurd hk hc
    · split
      · rename_i hs
        obtain ⟨a, x, b, rfl, hx, -, hm⟩ := modifyFirst_split _ (mergeSeveral f c) hs
        rw [hm]
        have hx := of_decide_eq_true hx
        exact h.replace (.inl (by simp [CauseRec.key, mergeSeveral, hx.2])) fun _ => rfl
      · rename_i hs
        split
        · rename_i hk
          obtain ⟨a, x, b, rfl, hx, -, hm⟩ := modifyLast_split _ (mergeSeveral f c) hk
          rw [hm]
          have hx := of_decide_eq_true hx
          refine h.replace (.inr ?_) fun _ => rfl
          intro r hr hre
          apply hs
          simp only [CauseRec.key, mergeSeveral, Prod.mk.injEq] at hre
          exact List.any_eq_true.2 ⟨r, hr, by simp [hre, hx]⟩
        · split
          · rename_i hk
            obtain ⟨a, x, b, rfl, hx, -, hm⟩ := modifyFirst_split _ (mergeMixed f c) hk
            rw [hm]
            have hx := of_decide_eq_true hx
            exact h.replace (.inl (by simp [CauseRec.key, mergeMixed, hx, h.2.2 x (by simp) hx])) fun _ => rfl
          · rename_i hk
            cases hl : l with
            | nil => simpa [modifyLast, modifyFirst, hl] using h
            | cons r rs =>
              have hany : l.any (fun _ => true) = true := by simp [hl]
              obtain ⟨a, x, b, hab, -, -, hm⟩ := modifyLast_split _ (mergeMixed f c) hany
              rw [← hl, hm]
              rw [hab] at h hk
              refine h.replace (.inr ?_) fun _ => rfl
              intro r hr hre
              apply hk
              simp only [CauseRec.key, mergeMixed, Prod.mk.injEq] at hre
              exact List.any_eq_true.2 ⟨r, hr, by simp [hre]⟩

/-- The WATCH cause of a changed state keeps the list lawful (R21). -/
theorem watchCause_lawful {f : FrameNo} {w : List Nat} {n : Nat} {x y : UserState} {l : List CauseRec} (h : CausesLawful l) :
    CausesLawful (watchCause f w n x y l) := by
  unfold watchCause
  split
  · exact raiseIn_lawful h (by simp)
  · exact h

end Sys2Proof.Machine
end

