-- ==== Sys2Proof/Laws/State.lean ====
section
/-! SUPPORT. Beside State: what each shared update leaves unchanged, one lemma per field per update, and what it writes. -/

namespace Sys2Proof.Machine

variable (s : State)

/-! ### raise -/

@[simp] theorem raise_resetLow (k : CauseKind) (b : Subject) (v : Option CauseValue) : (s.raise k b v).resetLow = s.resetLow := rfl
@[simp] theorem raise_ignored (k : CauseKind) (b : Subject) (v : Option CauseValue) : (s.raise k b v).ignored = s.ignored := rfl
@[simp] theorem raise_station (k : CauseKind) (b : Subject) (v : Option CauseValue) : (s.raise k b v).station = s.station := rfl
@[simp] theorem raise_cfg (k : CauseKind) (b : Subject) (v : Option CauseValue) : (s.raise k b v).cfg = s.cfg := rfl
@[simp] theorem raise_link (k : CauseKind) (b : Subject) (v : Option CauseValue) : (s.raise k b v).link = s.link := rfl
@[simp] theorem raise_users (k : CauseKind) (b : Subject) (v : Option CauseValue) : (s.raise k b v).users = s.users := rfl
@[simp] theorem raise_watch (k : CauseKind) (b : Subject) (v : Option CauseValue) : (s.raise k b v).watch = s.watch := rfl
@[simp] theorem raise_scan (k : CauseKind) (b : Subject) (v : Option CauseValue) : (s.raise k b v).scan = s.scan := rfl
@[simp] theorem raise_class1 (k : CauseKind) (b : Subject) (v : Option CauseValue) : (s.raise k b v).class1 = s.class1 := rfl
@[simp] theorem raise_finalWaiting (k : CauseKind) (b : Subject) (v : Option CauseValue) : (s.raise k b v).finalWaiting = s.finalWaiting := rfl
@[simp] theorem raise_freeOwed (k : CauseKind) (b : Subject) (v : Option CauseValue) : (s.raise k b v).freeOwed = s.freeOwed := rfl
@[simp] theorem raise_dueOwed (k : CauseKind) (b : Subject) (v : Option CauseValue) : (s.raise k b v).dueOwed = s.dueOwed := rfl
@[simp] theorem raise_digest (k : CauseKind) (b : Subject) (v : Option CauseValue) : (s.raise k b v).digest = s.digest := rfl
@[simp] theorem raise_line (k : CauseKind) (b : Subject) (v : Option CauseValue) : (s.raise k b v).line = s.line := rfl
@[simp] theorem raise_out (k : CauseKind) (b : Subject) (v : Option CauseValue) : (s.raise k b v).out = s.out := rfl
@[simp] theorem raise_recv (k : CauseKind) (b : Subject) (v : Option CauseValue) : (s.raise k b v).recv = s.recv := rfl
@[simp] theorem raise_peers (k : CauseKind) (b : Subject) (v : Option CauseValue) : (s.raise k b v).peers = s.peers := rfl
@[simp] theorem raise_ownFrame (k : CauseKind) (b : Subject) (v : Option CauseValue) : (s.raise k b v).ownFrame = s.ownFrame := rfl
@[simp] theorem raise_peerTotal (k : CauseKind) (b : Subject) (v : Option CauseValue) : (s.raise k b v).peerTotal = s.peerTotal := rfl
@[simp] theorem raise_cat (k : CauseKind) (b : Subject) (v : Option CauseValue) : (s.raise k b v).cat = s.cat := rfl
@[simp] theorem raise_latest (k : CauseKind) (b : Subject) (v : Option CauseValue) : (s.raise k b v).latest = s.latest := rfl
@[simp] theorem raise_holds (k : CauseKind) (b : Subject) (v : Option CauseValue) : (s.raise k b v).holds = s.holds := rfl
@[simp] theorem raise_sweep (k : CauseKind) (b : Subject) (v : Option CauseValue) : (s.raise k b v).sweep = s.sweep := rfl
@[simp] theorem raise_jobs (k : CauseKind) (b : Subject) (v : Option CauseValue) : (s.raise k b v).jobs = s.jobs := rfl
@[simp] theorem raise_dup (k : CauseKind) (b : Subject) (v : Option CauseValue) : (s.raise k b v).dup = s.dup := rfl
@[simp] theorem raise_tb (k : CauseKind) (b : Subject) (v : Option CauseValue) : (s.raise k b v).tb = s.tb := rfl
@[simp] theorem raise_pending (k : CauseKind) (b : Subject) (v : Option CauseValue) : (s.raise k b v).pending = s.pending := rfl

/-! ### modifyEpoch -/

@[simp] theorem modifyEpoch_resetLow (e : Epoch) (f : CatEntry → CatEntry) : (s.modifyEpoch e f).resetLow = s.resetLow := rfl
@[simp] theorem modifyEpoch_ignored (e : Epoch) (f : CatEntry → CatEntry) : (s.modifyEpoch e f).ignored = s.ignored := rfl
@[simp] theorem modifyEpoch_station (e : Epoch) (f : CatEntry → CatEntry) : (s.modifyEpoch e f).station = s.station := rfl
@[simp] theorem modifyEpoch_cfg (e : Epoch) (f : CatEntry → CatEntry) : (s.modifyEpoch e f).cfg = s.cfg := rfl
@[simp] theorem modifyEpoch_link (e : Epoch) (f : CatEntry → CatEntry) : (s.modifyEpoch e f).link = s.link := rfl
@[simp] theorem modifyEpoch_users (e : Epoch) (f : CatEntry → CatEntry) : (s.modifyEpoch e f).users = s.users := rfl
@[simp] theorem modifyEpoch_watch (e : Epoch) (f : CatEntry → CatEntry) : (s.modifyEpoch e f).watch = s.watch := rfl
@[simp] theorem modifyEpoch_scan (e : Epoch) (f : CatEntry → CatEntry) : (s.modifyEpoch e f).scan = s.scan := rfl
@[simp] theorem modifyEpoch_class1 (e : Epoch) (f : CatEntry → CatEntry) : (s.modifyEpoch e f).class1 = s.class1 := rfl
@[simp] theorem modifyEpoch_finalWaiting (e : Epoch) (f : CatEntry → CatEntry) : (s.modifyEpoch e f).finalWaiting = s.finalWaiting := rfl
@[simp] theorem modifyEpoch_freeOwed (e : Epoch) (f : CatEntry → CatEntry) : (s.modifyEpoch e f).freeOwed = s.freeOwed := rfl
@[simp] theorem modifyEpoch_dueOwed (e : Epoch) (f : CatEntry → CatEntry) : (s.modifyEpoch e f).dueOwed = s.dueOwed := rfl
@[simp] theorem modifyEpoch_digest (e : Epoch) (f : CatEntry → CatEntry) : (s.modifyEpoch e f).digest = s.digest := rfl
@[simp] theorem modifyEpoch_line (e : Epoch) (f : CatEntry → CatEntry) : (s.modifyEpoch e f).line = s.line := rfl
@[simp] theorem modifyEpoch_out (e : Epoch) (f : CatEntry → CatEntry) : (s.modifyEpoch e f).out = s.out := rfl
@[simp] theorem modifyEpoch_recv (e : Epoch) (f : CatEntry → CatEntry) : (s.modifyEpoch e f).recv = s.recv := rfl
@[simp] theorem modifyEpoch_peers (e : Epoch) (f : CatEntry → CatEntry) : (s.modifyEpoch e f).peers = s.peers := rfl
@[simp] theorem modifyEpoch_ownFrame (e : Epoch) (f : CatEntry → CatEntry) : (s.modifyEpoch e f).ownFrame = s.ownFrame := rfl
@[simp] theorem modifyEpoch_peerTotal (e : Epoch) (f : CatEntry → CatEntry) : (s.modifyEpoch e f).peerTotal = s.peerTotal := rfl
@[simp] theorem modifyEpoch_latest (e : Epoch) (f : CatEntry → CatEntry) : (s.modifyEpoch e f).latest = s.latest := rfl
@[simp] theorem modifyEpoch_holds (e : Epoch) (f : CatEntry → CatEntry) : (s.modifyEpoch e f).holds = s.holds := rfl
@[simp] theorem modifyEpoch_sweep (e : Epoch) (f : CatEntry → CatEntry) : (s.modifyEpoch e f).sweep = s.sweep := rfl
@[simp] theorem modifyEpoch_jobs (e : Epoch) (f : CatEntry → CatEntry) : (s.modifyEpoch e f).jobs = s.jobs := rfl
@[simp] theorem modifyEpoch_dup (e : Epoch) (f : CatEntry → CatEntry) : (s.modifyEpoch e f).dup = s.dup := rfl
@[simp] theorem modifyEpoch_tb (e : Epoch) (f : CatEntry → CatEntry) : (s.modifyEpoch e f).tb = s.tb := rfl
@[simp] theorem modifyEpoch_causes (e : Epoch) (f : CatEntry → CatEntry) : (s.modifyEpoch e f).causes = s.causes := rfl
@[simp] theorem modifyEpoch_pending (e : Epoch) (f : CatEntry → CatEntry) : (s.modifyEpoch e f).pending = s.pending := rfl

/-! ### setPeer -/

@[simp] theorem setPeer_resetLow (st : Station) (p : PeerEntry) : (s.setPeer st p).resetLow = s.resetLow := rfl
@[simp] theorem setPeer_ignored (st : Station) (p : PeerEntry) : (s.setPeer st p).ignored = s.ignored := rfl
@[simp] theorem setPeer_station (st : Station) (p : PeerEntry) : (s.setPeer st p).station = s.station := rfl
@[simp] theorem setPeer_cfg (st : Station) (p : PeerEntry) : (s.setPeer st p).cfg = s.cfg := rfl
@[simp] theorem setPeer_link (st : Station) (p : PeerEntry) : (s.setPeer st p).link = s.link := rfl
@[simp] theorem setPeer_users (st : Station) (p : PeerEntry) : (s.setPeer st p).users = s.users := rfl
@[simp] theorem setPeer_watch (st : Station) (p : PeerEntry) : (s.setPeer st p).watch = s.watch := rfl
@[simp] theorem setPeer_scan (st : Station) (p : PeerEntry) : (s.setPeer st p).scan = s.scan := rfl
@[simp] theorem setPeer_class1 (st : Station) (p : PeerEntry) : (s.setPeer st p).class1 = s.class1 := rfl
@[simp] theorem setPeer_finalWaiting (st : Station) (p : PeerEntry) : (s.setPeer st p).finalWaiting = s.finalWaiting := rfl
@[simp] theorem setPeer_freeOwed (st : Station) (p : PeerEntry) : (s.setPeer st p).freeOwed = s.freeOwed := rfl
@[simp] theorem setPeer_dueOwed (st : Station) (p : PeerEntry) : (s.setPeer st p).dueOwed = s.dueOwed := rfl
@[simp] theorem setPeer_digest (st : Station) (p : PeerEntry) : (s.setPeer st p).digest = s.digest := rfl
@[simp] theorem setPeer_line (st : Station) (p : PeerEntry) : (s.setPeer st p).line = s.line := rfl
@[simp] theorem setPeer_out (st : Station) (p : PeerEntry) : (s.setPeer st p).out = s.out := rfl
@[simp] theorem setPeer_recv (st : Station) (p : PeerEntry) : (s.setPeer st p).recv = s.recv := rfl
@[simp] theorem setPeer_ownFrame (st : Station) (p : PeerEntry) : (s.setPeer st p).ownFrame = s.ownFrame := rfl
@[simp] theorem setPeer_peerTotal (st : Station) (p : PeerEntry) : (s.setPeer st p).peerTotal = s.peerTotal := rfl
@[simp] theorem setPeer_cat (st : Station) (p : PeerEntry) : (s.setPeer st p).cat = s.cat := rfl
@[simp] theorem setPeer_latest (st : Station) (p : PeerEntry) : (s.setPeer st p).latest = s.latest := rfl
@[simp] theorem setPeer_holds (st : Station) (p : PeerEntry) : (s.setPeer st p).holds = s.holds := rfl
@[simp] theorem setPeer_sweep (st : Station) (p : PeerEntry) : (s.setPeer st p).sweep = s.sweep := rfl
@[simp] theorem setPeer_jobs (st : Station) (p : PeerEntry) : (s.setPeer st p).jobs = s.jobs := rfl
@[simp] theorem setPeer_dup (st : Station) (p : PeerEntry) : (s.setPeer st p).dup = s.dup := rfl
@[simp] theorem setPeer_tb (st : Station) (p : PeerEntry) : (s.setPeer st p).tb = s.tb := rfl
@[simp] theorem setPeer_causes (st : Station) (p : PeerEntry) : (s.setPeer st p).causes = s.causes := rfl
@[simp] theorem setPeer_pending (st : Station) (p : PeerEntry) : (s.setPeer st p).pending = s.pending := rfl

/-! ### setJob -/

@[simp] theorem setJob_resetLow (i : Fin 8) (j : JobSlot) : (s.setJob i j).resetLow = s.resetLow := rfl
@[simp] theorem setJob_ignored (i : Fin 8) (j : JobSlot) : (s.setJob i j).ignored = s.ignored := rfl
@[simp] theorem setJob_station (i : Fin 8) (j : JobSlot) : (s.setJob i j).station = s.station := rfl
@[simp] theorem setJob_cfg (i : Fin 8) (j : JobSlot) : (s.setJob i j).cfg = s.cfg := rfl
@[simp] theorem setJob_link (i : Fin 8) (j : JobSlot) : (s.setJob i j).link = s.link := rfl
@[simp] theorem setJob_users (i : Fin 8) (j : JobSlot) : (s.setJob i j).users = s.users := rfl
@[simp] theorem setJob_watch (i : Fin 8) (j : JobSlot) : (s.setJob i j).watch = s.watch := rfl
@[simp] theorem setJob_scan (i : Fin 8) (j : JobSlot) : (s.setJob i j).scan = s.scan := rfl
@[simp] theorem setJob_class1 (i : Fin 8) (j : JobSlot) : (s.setJob i j).class1 = s.class1 := rfl
@[simp] theorem setJob_finalWaiting (i : Fin 8) (j : JobSlot) : (s.setJob i j).finalWaiting = s.finalWaiting := rfl
@[simp] theorem setJob_freeOwed (i : Fin 8) (j : JobSlot) : (s.setJob i j).freeOwed = s.freeOwed := rfl
@[simp] theorem setJob_dueOwed (i : Fin 8) (j : JobSlot) : (s.setJob i j).dueOwed = s.dueOwed := rfl
@[simp] theorem setJob_digest (i : Fin 8) (j : JobSlot) : (s.setJob i j).digest = s.digest := rfl
@[simp] theorem setJob_line (i : Fin 8) (j : JobSlot) : (s.setJob i j).line = s.line := rfl
@[simp] theorem setJob_out (i : Fin 8) (j : JobSlot) : (s.setJob i j).out = s.out := rfl
@[simp] theorem setJob_recv (i : Fin 8) (j : JobSlot) : (s.setJob i j).recv = s.recv := rfl
@[simp] theorem setJob_peers (i : Fin 8) (j : JobSlot) : (s.setJob i j).peers = s.peers := rfl
@[simp] theorem setJob_ownFrame (i : Fin 8) (j : JobSlot) : (s.setJob i j).ownFrame = s.ownFrame := rfl
@[simp] theorem setJob_peerTotal (i : Fin 8) (j : JobSlot) : (s.setJob i j).peerTotal = s.peerTotal := rfl
@[simp] theorem setJob_cat (i : Fin 8) (j : JobSlot) : (s.setJob i j).cat = s.cat := rfl
@[simp] theorem setJob_latest (i : Fin 8) (j : JobSlot) : (s.setJob i j).latest = s.latest := rfl
@[simp] theorem setJob_holds (i : Fin 8) (j : JobSlot) : (s.setJob i j).holds = s.holds := rfl
@[simp] theorem setJob_sweep (i : Fin 8) (j : JobSlot) : (s.setJob i j).sweep = s.sweep := rfl
@[simp] theorem setJob_dup (i : Fin 8) (j : JobSlot) : (s.setJob i j).dup = s.dup := rfl
@[simp] theorem setJob_tb (i : Fin 8) (j : JobSlot) : (s.setJob i j).tb = s.tb := rfl
@[simp] theorem setJob_causes (i : Fin 8) (j : JobSlot) : (s.setJob i j).causes = s.causes := rfl
@[simp] theorem setJob_pending (i : Fin 8) (j : JobSlot) : (s.setJob i j).pending = s.pending := rfl

/-! ### putState -/

@[simp] theorem putState_resetLow (u : UserRec) (x : UserState) : (s.putState u x).resetLow = s.resetLow := rfl
@[simp] theorem putState_ignored (u : UserRec) (x : UserState) : (s.putState u x).ignored = s.ignored := rfl
@[simp] theorem putState_station (u : UserRec) (x : UserState) : (s.putState u x).station = s.station := rfl
@[simp] theorem putState_cfg (u : UserRec) (x : UserState) : (s.putState u x).cfg = s.cfg := rfl
@[simp] theorem putState_link (u : UserRec) (x : UserState) : (s.putState u x).link = s.link := rfl
@[simp] theorem putState_watch (u : UserRec) (x : UserState) : (s.putState u x).watch = s.watch := rfl
@[simp] theorem putState_scan (u : UserRec) (x : UserState) : (s.putState u x).scan = s.scan := rfl
@[simp] theorem putState_class1 (u : UserRec) (x : UserState) : (s.putState u x).class1 = s.class1 := rfl
@[simp] theorem putState_finalWaiting (u : UserRec) (x : UserState) : (s.putState u x).finalWaiting = s.finalWaiting := rfl
@[simp] theorem putState_freeOwed (u : UserRec) (x : UserState) : (s.putState u x).freeOwed = s.freeOwed := rfl
@[simp] theorem putState_dueOwed (u : UserRec) (x : UserState) : (s.putState u x).dueOwed = s.dueOwed := rfl
@[simp] theorem putState_digest (u : UserRec) (x : UserState) : (s.putState u x).digest = s.digest := rfl
@[simp] theorem putState_line (u : UserRec) (x : UserState) : (s.putState u x).line = s.line := rfl
@[simp] theorem putState_out (u : UserRec) (x : UserState) : (s.putState u x).out = s.out := rfl
@[simp] theorem putState_recv (u : UserRec) (x : UserState) : (s.putState u x).recv = s.recv := rfl
@[simp] theorem putState_peers (u : UserRec) (x : UserState) : (s.putState u x).peers = s.peers := rfl
@[simp] theorem putState_ownFrame (u : UserRec) (x : UserState) : (s.putState u x).ownFrame = s.ownFrame := rfl
@[simp] theorem putState_peerTotal (u : UserRec) (x : UserState) : (s.putState u x).peerTotal = s.peerTotal := rfl
@[simp] theorem putState_cat (u : UserRec) (x : UserState) : (s.putState u x).cat = s.cat := rfl
@[simp] theorem putState_latest (u : UserRec) (x : UserState) : (s.putState u x).latest = s.latest := rfl
@[simp] theorem putState_holds (u : UserRec) (x : UserState) : (s.putState u x).holds = s.holds := rfl
@[simp] theorem putState_sweep (u : UserRec) (x : UserState) : (s.putState u x).sweep = s.sweep := rfl
@[simp] theorem putState_jobs (u : UserRec) (x : UserState) : (s.putState u x).jobs = s.jobs := rfl
@[simp] theorem putState_dup (u : UserRec) (x : UserState) : (s.putState u x).dup = s.dup := rfl
@[simp] theorem putState_tb (u : UserRec) (x : UserState) : (s.putState u x).tb = s.tb := rfl
@[simp] theorem putState_pending (u : UserRec) (x : UserState) : (s.putState u x).pending = s.pending := rfl

/-! ### commit -/

@[simp] theorem commit_resetLow (o u : UserRec) : (s.commit o u).resetLow = s.resetLow := rfl
@[simp] theorem commit_ignored (o u : UserRec) : (s.commit o u).ignored = s.ignored := rfl
@[simp] theorem commit_station (o u : UserRec) : (s.commit o u).station = s.station := rfl
@[simp] theorem commit_cfg (o u : UserRec) : (s.commit o u).cfg = s.cfg := rfl
@[simp] theorem commit_link (o u : UserRec) : (s.commit o u).link = s.link := rfl
@[simp] theorem commit_watch (o u : UserRec) : (s.commit o u).watch = s.watch := rfl
@[simp] theorem commit_scan (o u : UserRec) : (s.commit o u).scan = s.scan := rfl
@[simp] theorem commit_class1 (o u : UserRec) : (s.commit o u).class1 = s.class1 := rfl
@[simp] theorem commit_finalWaiting (o u : UserRec) : (s.commit o u).finalWaiting = s.finalWaiting := rfl
@[simp] theorem commit_freeOwed (o u : UserRec) : (s.commit o u).freeOwed = s.freeOwed := rfl
@[simp] theorem commit_dueOwed (o u : UserRec) : (s.commit o u).dueOwed = s.dueOwed := rfl
@[simp] theorem commit_line (o u : UserRec) : (s.commit o u).line = s.line := rfl
@[simp] theorem commit_out (o u : UserRec) : (s.commit o u).out = s.out := rfl
@[simp] theorem commit_recv (o u : UserRec) : (s.commit o u).recv = s.recv := rfl
@[simp] theorem commit_peers (o u : UserRec) : (s.commit o u).peers = s.peers := rfl
@[simp] theorem commit_ownFrame (o u : UserRec) : (s.commit o u).ownFrame = s.ownFrame := rfl
@[simp] theorem commit_peerTotal (o u : UserRec) : (s.commit o u).peerTotal = s.peerTotal := rfl
@[simp] theorem commit_cat (o u : UserRec) : (s.commit o u).cat = s.cat := rfl
@[simp] theorem commit_latest (o u : UserRec) : (s.commit o u).latest = s.latest := rfl
@[simp] theorem commit_holds (o u : UserRec) : (s.commit o u).holds = s.holds := rfl
@[simp] theorem commit_sweep (o u : UserRec) : (s.commit o u).sweep = s.sweep := rfl
@[simp] theorem commit_jobs (o u : UserRec) : (s.commit o u).jobs = s.jobs := rfl
@[simp] theorem commit_dup (o u : UserRec) : (s.commit o u).dup = s.dup := rfl
@[simp] theorem commit_tb (o u : UserRec) : (s.commit o u).tb = s.tb := rfl
@[simp] theorem commit_pending (o u : UserRec) : (s.commit o u).pending = s.pending := rfl

/-! ### setDue -/

@[simp] theorem setDue_resetLow (n : Nat) : (s.setDue n).resetLow = s.resetLow := rfl
@[simp] theorem setDue_ignored (n : Nat) : (s.setDue n).ignored = s.ignored := rfl
@[simp] theorem setDue_station (n : Nat) : (s.setDue n).station = s.station := rfl
@[simp] theorem setDue_cfg (n : Nat) : (s.setDue n).cfg = s.cfg := rfl
@[simp] theorem setDue_link (n : Nat) : (s.setDue n).link = s.link := rfl
@[simp] theorem setDue_watch (n : Nat) : (s.setDue n).watch = s.watch := rfl
@[simp] theorem setDue_scan (n : Nat) : (s.setDue n).scan = s.scan := rfl
@[simp] theorem setDue_class1 (n : Nat) : (s.setDue n).class1 = s.class1 := rfl
@[simp] theorem setDue_finalWaiting (n : Nat) : (s.setDue n).finalWaiting = s.finalWaiting := rfl
@[simp] theorem setDue_freeOwed (n : Nat) : (s.setDue n).freeOwed = s.freeOwed := rfl
@[simp] theorem setDue_dueOwed (n : Nat) : (s.setDue n).dueOwed = s.dueOwed := rfl
@[simp] theorem setDue_line (n : Nat) : (s.setDue n).line = s.line := rfl
@[simp] theorem setDue_out (n : Nat) : (s.setDue n).out = s.out := rfl
@[simp] theorem setDue_recv (n : Nat) : (s.setDue n).recv = s.recv := rfl
@[simp] theorem setDue_peers (n : Nat) : (s.setDue n).peers = s.peers := rfl
@[simp] theorem setDue_ownFrame (n : Nat) : (s.setDue n).ownFrame = s.ownFrame := rfl
@[simp] theorem setDue_peerTotal (n : Nat) : (s.setDue n).peerTotal = s.peerTotal := rfl
@[simp] theorem setDue_cat (n : Nat) : (s.setDue n).cat = s.cat := rfl
@[simp] theorem setDue_latest (n : Nat) : (s.setDue n).latest = s.latest := rfl
@[simp] theorem setDue_holds (n : Nat) : (s.setDue n).holds = s.holds := rfl
@[simp] theorem setDue_sweep (n : Nat) : (s.setDue n).sweep = s.sweep := rfl
@[simp] theorem setDue_jobs (n : Nat) : (s.setDue n).jobs = s.jobs := rfl
@[simp] theorem setDue_dup (n : Nat) : (s.setDue n).dup = s.dup := rfl
@[simp] theorem setDue_tb (n : Nat) : (s.setDue n).tb = s.tb := rfl
@[simp] theorem setDue_causes (n : Nat) : (s.setDue n).causes = s.causes := rfl
@[simp] theorem setDue_pending (n : Nat) : (s.setDue n).pending = s.pending := rfl

/-! ### clearDue -/

@[simp] theorem clearDue_resetLow (n : Nat) : (s.clearDue n).resetLow = s.resetLow := rfl
@[simp] theorem clearDue_ignored (n : Nat) : (s.clearDue n).ignored = s.ignored := rfl
@[simp] theorem clearDue_station (n : Nat) : (s.clearDue n).station = s.station := rfl
@[simp] theorem clearDue_cfg (n : Nat) : (s.clearDue n).cfg = s.cfg := rfl
@[simp] theorem clearDue_link (n : Nat) : (s.clearDue n).link = s.link := rfl
@[simp] theorem clearDue_watch (n : Nat) : (s.clearDue n).watch = s.watch := rfl
@[simp] theorem clearDue_scan (n : Nat) : (s.clearDue n).scan = s.scan := rfl
@[simp] theorem clearDue_class1 (n : Nat) : (s.clearDue n).class1 = s.class1 := rfl
@[simp] theorem clearDue_finalWaiting (n : Nat) : (s.clearDue n).finalWaiting = s.finalWaiting := rfl
@[simp] theorem clearDue_freeOwed (n : Nat) : (s.clearDue n).freeOwed = s.freeOwed := rfl
@[simp] theorem clearDue_dueOwed (n : Nat) : (s.clearDue n).dueOwed = s.dueOwed := rfl
@[simp] theorem clearDue_digest (n : Nat) : (s.clearDue n).digest = s.digest := rfl
@[simp] theorem clearDue_line (n : Nat) : (s.clearDue n).line = s.line := rfl
@[simp] theorem clearDue_out (n : Nat) : (s.clearDue n).out = s.out := rfl
@[simp] theorem clearDue_recv (n : Nat) : (s.clearDue n).recv = s.recv := rfl
@[simp] theorem clearDue_peers (n : Nat) : (s.clearDue n).peers = s.peers := rfl
@[simp] theorem clearDue_ownFrame (n : Nat) : (s.clearDue n).ownFrame = s.ownFrame := rfl
@[simp] theorem clearDue_peerTotal (n : Nat) : (s.clearDue n).peerTotal = s.peerTotal := rfl
@[simp] theorem clearDue_cat (n : Nat) : (s.clearDue n).cat = s.cat := rfl
@[simp] theorem clearDue_latest (n : Nat) : (s.clearDue n).latest = s.latest := rfl
@[simp] theorem clearDue_holds (n : Nat) : (s.clearDue n).holds = s.holds := rfl
@[simp] theorem clearDue_sweep (n : Nat) : (s.clearDue n).sweep = s.sweep := rfl
@[simp] theorem clearDue_jobs (n : Nat) : (s.clearDue n).jobs = s.jobs := rfl
@[simp] theorem clearDue_dup (n : Nat) : (s.clearDue n).dup = s.dup := rfl
@[simp] theorem clearDue_tb (n : Nat) : (s.clearDue n).tb = s.tb := rfl
@[simp] theorem clearDue_causes (n : Nat) : (s.clearDue n).causes = s.causes := rfl
@[simp] theorem clearDue_pending (n : Nat) : (s.clearDue n).pending = s.pending := rfl

/-! ### freeUser -/

@[simp] theorem freeUser_resetLow (n : Nat) : (s.freeUser n).resetLow = s.resetLow := rfl
@[simp] theorem freeUser_ignored (n : Nat) : (s.freeUser n).ignored = s.ignored := rfl
@[simp] theorem freeUser_station (n : Nat) : (s.freeUser n).station = s.station := rfl
@[simp] theorem freeUser_cfg (n : Nat) : (s.freeUser n).cfg = s.cfg := rfl
@[simp] theorem freeUser_link (n : Nat) : (s.freeUser n).link = s.link := rfl
@[simp] theorem freeUser_scan (n : Nat) : (s.freeUser n).scan = s.scan := rfl
@[simp] theorem freeUser_class1 (n : Nat) : (s.freeUser n).class1 = s.class1 := rfl
@[simp] theorem freeUser_finalWaiting (n : Nat) : (s.freeUser n).finalWaiting = s.finalWaiting := rfl
@[simp] theorem freeUser_freeOwed (n : Nat) : (s.freeUser n).freeOwed = s.freeOwed := rfl
@[simp] theorem freeUser_dueOwed (n : Nat) : (s.freeUser n).dueOwed = s.dueOwed := rfl
@[simp] theorem freeUser_digest (n : Nat) : (s.freeUser n).digest = s.digest := rfl
@[simp] theorem freeUser_line (n : Nat) : (s.freeUser n).line = s.line := rfl
@[simp] theorem freeUser_out (n : Nat) : (s.freeUser n).out = s.out := rfl
@[simp] theorem freeUser_recv (n : Nat) : (s.freeUser n).recv = s.recv := rfl
@[simp] theorem freeUser_peers (n : Nat) : (s.freeUser n).peers = s.peers := rfl
@[simp] theorem freeUser_ownFrame (n : Nat) : (s.freeUser n).ownFrame = s.ownFrame := rfl
@[simp] theorem freeUser_peerTotal (n : Nat) : (s.freeUser n).peerTotal = s.peerTotal := rfl
@[simp] theorem freeUser_cat (n : Nat) : (s.freeUser n).cat = s.cat := rfl
@[simp] theorem freeUser_latest (n : Nat) : (s.freeUser n).latest = s.latest := rfl
@[simp] theorem freeUser_holds (n : Nat) : (s.freeUser n).holds = s.holds := rfl
@[simp] theorem freeUser_sweep (n : Nat) : (s.freeUser n).sweep = s.sweep := rfl
@[simp] theorem freeUser_jobs (n : Nat) : (s.freeUser n).jobs = s.jobs := rfl
@[simp] theorem freeUser_dup (n : Nat) : (s.freeUser n).dup = s.dup := rfl
@[simp] theorem freeUser_tb (n : Nat) : (s.freeUser n).tb = s.tb := rfl
@[simp] theorem freeUser_causes (n : Nat) : (s.freeUser n).causes = s.causes := rfl
@[simp] theorem freeUser_pending (n : Nat) : (s.freeUser n).pending = s.pending := rfl

/-! ### answer -/

@[simp] theorem answer_resetLow (x : Status) (c : Byte) (m : Bool) (b : ReplyBody) : (s.answer x c m b).resetLow = s.resetLow := rfl
@[simp] theorem answer_ignored (x : Status) (c : Byte) (m : Bool) (b : ReplyBody) : (s.answer x c m b).ignored = s.ignored := rfl
@[simp] theorem answer_station (x : Status) (c : Byte) (m : Bool) (b : ReplyBody) : (s.answer x c m b).station = s.station := rfl
@[simp] theorem answer_cfg (x : Status) (c : Byte) (m : Bool) (b : ReplyBody) : (s.answer x c m b).cfg = s.cfg := rfl
@[simp] theorem answer_users (x : Status) (c : Byte) (m : Bool) (b : ReplyBody) : (s.answer x c m b).users = s.users := rfl
@[simp] theorem answer_watch (x : Status) (c : Byte) (m : Bool) (b : ReplyBody) : (s.answer x c m b).watch = s.watch := rfl
@[simp] theorem answer_scan (x : Status) (c : Byte) (m : Bool) (b : ReplyBody) : (s.answer x c m b).scan = s.scan := rfl
@[simp] theorem answer_class1 (x : Status) (c : Byte) (m : Bool) (b : ReplyBody) : (s.answer x c m b).class1 = s.class1 := rfl
@[simp] theorem answer_finalWaiting (x : Status) (c : Byte) (m : Bool) (b : ReplyBody) : (s.answer x c m b).finalWaiting = s.finalWaiting := rfl
@[simp] theorem answer_freeOwed (x : Status) (c : Byte) (m : Bool) (b : ReplyBody) : (s.answer x c m b).freeOwed = s.freeOwed := rfl
@[simp] theorem answer_dueOwed (x : Status) (c : Byte) (m : Bool) (b : ReplyBody) : (s.answer x c m b).dueOwed = s.dueOwed := rfl
@[simp] theorem answer_digest (x : Status) (c : Byte) (m : Bool) (b : ReplyBody) : (s.answer x c m b).digest = s.digest := rfl
@[simp] theorem answer_line (x : Status) (c : Byte) (m : Bool) (b : ReplyBody) : (s.answer x c m b).line = s.line := rfl
@[simp] theorem answer_out (x : Status) (c : Byte) (m : Bool) (b : ReplyBody) : (s.answer x c m b).out = s.out := rfl
@[simp] theorem answer_recv (x : Status) (c : Byte) (m : Bool) (b : ReplyBody) : (s.answer x c m b).recv = s.recv := rfl
@[simp] theorem answer_peers (x : Status) (c : Byte) (m : Bool) (b : ReplyBody) : (s.answer x c m b).peers = s.peers := rfl
@[simp] theorem answer_ownFrame (x : Status) (c : Byte) (m : Bool) (b : ReplyBody) : (s.answer x c m b).ownFrame = s.ownFrame := rfl
@[simp] theorem answer_peerTotal (x : Status) (c : Byte) (m : Bool) (b : ReplyBody) : (s.answer x c m b).peerTotal = s.peerTotal := rfl
@[simp] theorem answer_cat (x : Status) (c : Byte) (m : Bool) (b : ReplyBody) : (s.answer x c m b).cat = s.cat := rfl
@[simp] theorem answer_latest (x : Status) (c : Byte) (m : Bool) (b : ReplyBody) : (s.answer x c m b).latest = s.latest := rfl
@[simp] theorem answer_holds (x : Status) (c : Byte) (m : Bool) (b : ReplyBody) : (s.answer x c m b).holds = s.holds := rfl
@[simp] theorem answer_sweep (x : Status) (c : Byte) (m : Bool) (b : ReplyBody) : (s.answer x c m b).sweep = s.sweep := rfl
@[simp] theorem answer_jobs (x : Status) (c : Byte) (m : Bool) (b : ReplyBody) : (s.answer x c m b).jobs = s.jobs := rfl
@[simp] theorem answer_dup (x : Status) (c : Byte) (m : Bool) (b : ReplyBody) : (s.answer x c m b).dup = s.dup := rfl
@[simp] theorem answer_tb (x : Status) (c : Byte) (m : Bool) (b : ReplyBody) : (s.answer x c m b).tb = s.tb := rfl
@[simp] theorem answer_causes (x : Status) (c : Byte) (m : Bool) (b : ReplyBody) : (s.answer x c m b).causes = s.causes := rfl
@[simp] theorem answer_pending (x : Status) (c : Byte) (m : Bool) (b : ReplyBody) : (s.answer x c m b).pending = s.pending := rfl

/-! ### setLine -/

@[simp] theorem setLine_resetLow (x : LineState) (r : Rx) : (s.setLine x r).resetLow = s.resetLow := rfl
@[simp] theorem setLine_ignored (x : LineState) (r : Rx) : (s.setLine x r).ignored = s.ignored := rfl
@[simp] theorem setLine_station (x : LineState) (r : Rx) : (s.setLine x r).station = s.station := rfl
@[simp] theorem setLine_cfg (x : LineState) (r : Rx) : (s.setLine x r).cfg = s.cfg := rfl
@[simp] theorem setLine_link (x : LineState) (r : Rx) : (s.setLine x r).link = s.link := rfl
@[simp] theorem setLine_users (x : LineState) (r : Rx) : (s.setLine x r).users = s.users := rfl
@[simp] theorem setLine_watch (x : LineState) (r : Rx) : (s.setLine x r).watch = s.watch := rfl
@[simp] theorem setLine_scan (x : LineState) (r : Rx) : (s.setLine x r).scan = s.scan := rfl
@[simp] theorem setLine_class1 (x : LineState) (r : Rx) : (s.setLine x r).class1 = s.class1 := rfl
@[simp] theorem setLine_finalWaiting (x : LineState) (r : Rx) : (s.setLine x r).finalWaiting = s.finalWaiting := rfl
@[simp] theorem setLine_freeOwed (x : LineState) (r : Rx) : (s.setLine x r).freeOwed = s.freeOwed := rfl
@[simp] theorem setLine_dueOwed (x : LineState) (r : Rx) : (s.setLine x r).dueOwed = s.dueOwed := rfl
@[simp] theorem setLine_digest (x : LineState) (r : Rx) : (s.setLine x r).digest = s.digest := rfl
@[simp] theorem setLine_out (x : LineState) (r : Rx) : (s.setLine x r).out = s.out := rfl
@[simp] theorem setLine_recv (x : LineState) (r : Rx) : (s.setLine x r).recv = s.recv := rfl
@[simp] theorem setLine_peers (x : LineState) (r : Rx) : (s.setLine x r).peers = s.peers := rfl
@[simp] theorem setLine_ownFrame (x : LineState) (r : Rx) : (s.setLine x r).ownFrame = s.ownFrame := rfl
@[simp] theorem setLine_peerTotal (x : LineState) (r : Rx) : (s.setLine x r).peerTotal = s.peerTotal := rfl
@[simp] theorem setLine_cat (x : LineState) (r : Rx) : (s.setLine x r).cat = s.cat := rfl
@[simp] theorem setLine_latest (x : LineState) (r : Rx) : (s.setLine x r).latest = s.latest := rfl
@[simp] theorem setLine_holds (x : LineState) (r : Rx) : (s.setLine x r).holds = s.holds := rfl
@[simp] theorem setLine_sweep (x : LineState) (r : Rx) : (s.setLine x r).sweep = s.sweep := rfl
@[simp] theorem setLine_jobs (x : LineState) (r : Rx) : (s.setLine x r).jobs = s.jobs := rfl
@[simp] theorem setLine_dup (x : LineState) (r : Rx) : (s.setLine x r).dup = s.dup := rfl
@[simp] theorem setLine_tb (x : LineState) (r : Rx) : (s.setLine x r).tb = s.tb := rfl
@[simp] theorem setLine_causes (x : LineState) (r : Rx) : (s.setLine x r).causes = s.causes := rfl
@[simp] theorem setLine_pending (x : LineState) (r : Rx) : (s.setLine x r).pending = s.pending := rfl

/-! ### What the updates write -/

@[simp] theorem raise_causes (k : CauseKind) (b : Subject) (v : Option CauseValue) :
    (s.raise k b v).causes = raiseIn s.tb.frame { kind := k, subject := b, value := v } s.causes := rfl

@[simp] theorem setPeer_peers (st : Station) (p : PeerEntry) : (s.setPeer st p).peers = s.peers.set st.val p := rfl

@[simp] theorem setJob_jobs (i : Fin 8) (j : JobSlot) : (s.setJob i j).jobs = s.jobs.set i.val j := rfl

@[simp] theorem answer_reply (x : Status) (c : Byte) (m : Bool) (b : ReplyBody) :
    (s.answer x c m b).link.reply = some { status := x, code := c, mark := m, body := b } := rfl

@[simp] theorem answer_running (x : Status) (c : Byte) (m : Bool) (b : ReplyBody) :
    (s.answer x c m b).link.running = s.link.running := rfl

@[simp] theorem answer_inProgress (x : Status) (c : Byte) (m : Bool) (b : ReplyBody) :
    (s.answer x c m b).link.inProgress = s.link.inProgress := rfl

@[simp] theorem answer_txn (x : Status) (c : Byte) (m : Bool) (b : ReplyBody) :
    (s.answer x c m b).link.txn = s.link.txn := rfl

@[simp] theorem setLine_line (x : LineState) (r : Rx) : (s.setLine x r).line = { state := x, rx := r, sendBits := [] } := rfl

theorem settings_of_cfg {t : State} (h : t.cfg = s.cfg) : t.settings = s.settings := by simp [State.settings, h]

end Sys2Proof.Machine
end

