-- ==== Sys2Proof/Laws/Settle.lean ====
section
/-! SUPPORT. What `settle` can do: nothing on a settled state, and otherwise only the follow-on steps. -/

namespace Sys2Proof.Machine

/-- A fold whose every step leaves the state as it is. -/
theorem foldl_fixed {α β : Type} (f : β → α → β) (b : β) (l : List α) (h : ∀ x ∈ l, f b x = b) : l.foldl f b = b := by
  induction l with
  | nil => rfl
  | cons x xs ih =>
    rw [List.foldl_cons, h x (by simp)]
    exact ih fun y hy => h y (by simp [hy])

/-- A property that every step of a fold keeps. -/
theorem foldl_keeps {α β : Type} (P : β → Prop) (f : β → α → β) (l : List α) (h : ∀ b x, P b → P (f b x)) (b : β) (hb : P b) :
    P (l.foldl f b) := by
  induction l generalizing b with
  | nil => exact hb
  | cons x xs ih => exact ih _ (h b x hb)

/-- What each follow-on step keeps, `settle` keeps (log 7). -/
theorem settle_keeps (P : State → Prop) (hFree : ∀ s n, P s → P (s.freeRetired n)) (hDue : ∀ s n, P s → P (s.dueAfterLoss n))
    (hTake : ∀ s, P s → P s.takeStretched) (hAge : ∀ s st, P s → P (s.agePeer st)) (hAsk : ∀ s, P s → P s.expireAsk)
    (hClose : ∀ s e, P s → P (s.expireClose e)) (hIdle : ∀ s i, P s → P (s.offerRelease i))
    (hWindow : ∀ s, P s → P s.expireWindow) (s : State) (h : P s) : P s.settle := by
  unfold State.settle
  apply foldl_keeps P _ _ fun b x hb => hDue b x hb
  apply hWindow
  apply foldl_keeps P _ _ fun b x hb => hIdle b x hb
  apply foldl_keeps P _ _ fun b x hb => hClose b x hb
  apply hAsk
  apply foldl_keeps P _ _ fun b x hb => hAge b x hb
  apply hTake
  apply foldl_keeps P _ _ fun b x hb => hDue b x hb
  exact foldl_keeps P _ _ (fun b x hb => hFree b x hb) _ h

section Settled

variable {s : State} (h : s.settled = true)

include h

theorem settled_freeOwed : s.freeOwed = [] := by
  simp only [State.settled, Bool.and_eq_true, List.isEmpty_iff] at h
  exact h.1.1.1.1.1.1.1

theorem settled_dueOwed : s.dueOwed = [] := by
  simp only [State.settled, Bool.and_eq_true, List.isEmpty_iff] at h
  exact h.1.1.1.1.1.1.2

theorem settled_takeStretched : s.takeStretched = s := by
  simp only [State.settled, Bool.and_eq_true] at h
  have h3 := h.1.1.1.1.1.2
  unfold State.takeStretched
  split <;> simp_all

theorem settled_agePeer (st : Station) : s.agePeer st = s := by
  simp only [State.settled, Bool.and_eq_true, List.all_eq_true] at h
  have h4 := h.1.1.1.1.2 st (List.mem_finRange st)
  unfold State.agePeer
  rw [if_neg]
  rintro ⟨h1, h2, h3⟩
  simp [h1, h2, h3] at h4

theorem settled_expireAsk : s.expireAsk = s := by
  simp only [State.settled, Bool.and_eq_true] at h
  have h5 := h.1.1.1.2
  unfold State.expireAsk
  split
  · rfl
  · simp_all

theorem settled_expireClose (e : Epoch) : s.expireClose e = s := by
  simp only [State.settled, Bool.and_eq_true, List.all_eq_true] at h
  have h6 := h.1.1.2
  unfold State.expireClose
  split
  · rfl
  · rename_i c hc
    have := h6 c (List.mem_of_find?_eq_some hc)
    rw [if_neg]
    rintro ⟨h1, h2⟩
    simp [h1, h2] at this

theorem settled_idleDue (i : Fin 8) : s.idleDue i = false := by
  simp only [State.settled, Bool.and_eq_true, List.all_eq_true] at h
  simpa using h.1.2 i (List.mem_finRange i)

theorem settled_offerRelease (i : Fin 8) : s.offerRelease i = s := by
  unfold State.offerRelease
  split
  · rfl
  · simp [settled_idleDue h i]

theorem settled_window : s.dup.window ≠ some 0 := by
  simp only [State.settled, Bool.and_eq_true] at h
  exact of_decide_eq_true h.2

theorem settled_expireWindow : s.expireWindow = s := by
  unfold State.expireWindow
  simp [settled_window h]

/-- On a settled state nothing is owed, and `settle` changes nothing. -/
theorem settle_of_settled : s.settle = s := by
  unfold State.settle
  simp only [settled_freeOwed h, settled_dueOwed h, List.foldl_nil, settled_takeStretched h]
  rw [foldl_fixed (fun t st => State.agePeer st t) s _ fun st _ => settled_agePeer h st]
  simp only [settled_expireAsk h]
  rw [foldl_fixed State.expireClose s _ fun e _ => settled_expireClose h e,
    foldl_fixed State.offerRelease s _ fun i _ => settled_offerRelease h i]
  simp only [settled_expireWindow h, settled_dueOwed h, List.foldl_nil]

end Settled

/-- Whether anything is owed does not depend on the Local Link. -/
@[simp] theorem settled_link (s : State) (l : Link) : ({ s with link := l } : State).settled = s.settled := rfl

/-- Nor on whether the transaction in progress is one that a reset abandoned. -/
@[simp] theorem settled_ignored (s : State) (b : Bool) : ({ s with ignored := b } : State).settled = s.settled := rfl

/-- Nor on what waits in class 1. -/
@[simp] theorem settled_class1 (s : State) (l : List Client) : ({ s with class1 := l } : State).settled = s.settled := rfl

end Sys2Proof.Machine
end

