-- ==== Sys2Proof/Laws/Link.lean ====
section
/-! SUPPORT. What a transaction, a request taken at once, a served access and a receipt can do: one lemma each for the case in which the event
occurs, and one for what they keep. -/

namespace Sys2Proof.Machine

/-! ### The access of a waiting request -/

/-- A served access: the body on the state without the waiting client, then the reply (R15, R16, R183). -/
theorem accessRequest_served {a : Access} {body : State → Answer} {s : State} (h : s.served a) :
    s.accessRequest a body =
      State.replied a s.settle.link.mark (body s.granted).2.1 (body s.granted).2.2 (body s.granted).1 := by
  unfold State.accessRequest
  simp only [show s.settle.serves a = true from h, if_true]
  rfl

/-- What `settle`, the body and the reply keep, an access keeps. -/
theorem accessRequest_keeps (P : State → Prop) (a : Access) (body : State → Answer) (hSettle : ∀ s, P s → P s.settle)
    (hPop : ∀ s : State, P s → P { s with class1 := s.class1.tail }) (hBody : ∀ s, P s → P (body s).1)
    (hLink : ∀ (s : State) (p : Option InProgress), P s → P { s with link := { s.link with inProgress := p } })
    (hAnswer : ∀ s x c m b, P s → P (State.answer x c m b s)) (s : State) (h : P s) : P (s.accessRequest a body) := by
  unfold State.accessRequest
  by_cases hs : s.settle.serves a = true
  · simp only [hs, if_true]
    exact hAnswer _ _ _ _ _ (hLink _ _ (hBody _ (hPop _ (hSettle _ h))))
  · simp only [hs, Bool.false_eq_true, if_false]
    exact h

/-! ### The end of a transaction -/

@[simp] theorem start_running (l : Link) : l.start.running = l.running := by unfold Link.start; split <;> rfl

@[simp] theorem deliver_running (l : Link) : l.deliver.running = l.running := by
  unfold Link.deliver
  split
  · rfl
  · split <;> rfl

@[simp] theorem finish_running (l : Link) : l.finish.running = l.running := rfl

@[simp] theorem overrun_running (l : Link) : l.overrun.running = l.running := by unfold Link.overrun; split <;> rfl

/-- A request that the station takes (test 6 of R182) goes to its owning block after the transaction's end. -/
theorem endWith_taken {r : Request} {take : State → State} {s : State} (h : s.listens) (hr : r ≠ .nop)
    (ht : s.link.running = true ∨ r.takenUnconfigured = true) : s.endWith r take = take s.afterTransaction := by
  unfold State.endWith State.endTransaction State.admitRequest
  rw [if_neg (by simp [h.1.1, h.1.2])]
  simp only []
  rw [if_neg (by simp [h.2]), if_neg (by simp), if_neg hr, if_pos (by simpa using ht)]
  rfl

/-- A request taken at once: its block's answer on the state after the transaction, its reply pending (R183). -/
theorem requestAtOnce_taken {r : Request} {handle : State → Answer} {s : State} (h : s.listens) (hr : r ≠ .nop)
    (ht : s.link.running = true ∨ r.takenUnconfigured = true) :
    s.requestAtOnce r handle =
      State.answer (handle s.atTaking).2.1 r.code false (handle s.atTaking).2.2 (handle s.atTaking).1 := by
  unfold State.requestAtOnce
  rw [endWith_taken h hr ht]
  rfl

/-- What every change of the link, every reply and the hand-over keep, the end of a transaction keeps. -/
theorem endTransaction_keeps (P : State → Prop) (take : Request → State → State)
    (hLink : ∀ (s : State) (l : Link), l.running = s.link.running → P s → P { s with link := l })
    (hIgnored : ∀ (s : State) (b : Bool), P s → P { s with ignored := b })
    (hAnswer : ∀ s x c m b, P s → P (State.answer x c m b s))
    (hTake : ∀ r s, s.link.running = true ∨ r.takenUnconfigured = true → P s → P (take r s))
    (record : Record) (trailing : Bool) (s : State) (h : P s) : P (s.endTransaction record trailing take) := by
  have hs : s.link.start.finish.running = s.link.running := by simp
  have hd : s.link.start.deliver.finish.running = s.link.running := by simp
  have ho : s.link.start.deliver.finish.overrun.running = s.link.running := by simp
  unfold State.endTransaction
  split
  · exact hIgnored _ _ h
  · cases record with
    | noByte => exact hLink _ _ hs h
    | short => exact hLink _ _ hd h
    | malformed code =>
      simp only []
      split
      · exact hLink _ _ ho h
      · exact hAnswer _ _ _ _ _ (hLink _ _ hd h)
    | request r =>
      simp only []
      split
      · exact hLink _ _ ho h
      · split
        · exact hAnswer _ _ _ _ _ (hLink _ _ hd h)
        · unfold State.admitRequest
          split
          · exact hLink _ _ hd h
          · split
            · rename_i hr
              exact hTake _ _ (by simpa using hr) (hLink _ _ hd h)
            · exact hAnswer _ _ _ _ _ (hLink _ _ hd h)

/-- What `settle`, the block's work and the reply keep, a request taken at once keeps. -/
theorem requestAtOnce_keeps (P : State → Prop) (r : Request) (handle : State → Answer) (hSettle : ∀ s, P s → P s.settle)
    (hLink : ∀ (s : State) (l : Link), l.running = s.link.running → P s → P { s with link := l })
    (hIgnored : ∀ (s : State) (b : Bool), P s → P { s with ignored := b })
    (hAnswer : ∀ s x c m b, P s → P (State.answer x c m b s)) (hHandle : ∀ s, P s → P (handle s).1) (s : State) (h : P s) :
    P (s.requestAtOnce r handle) :=
  endTransaction_keeps P (fun _ => State.takeAtOnce r.code handle) hLink hIgnored hAnswer
    (fun _ _ _ ht => hAnswer _ _ _ _ _ (hHandle _ (hSettle _ ht))) (.request r) false s h

/-! ### Receipts -/

/-- A receipt that is made: the notice leaves the queue and is handled (R62). -/
theorem receive_made {α : Type} {pick : Notice → Option α} {act : Station → α → State → State} {s : State} {st : Station} {n : Notice}
    {rest : List RxNotice} {a : α} (h : s.receives st n rest) (hp : pick n = some a) :
    s.receive pick act = act st a (s.withRecv rest) := by
  have h' : s.settle.recv = { sender := st, notice := n, available := true } :: rest := h
  unfold State.receive
  simp only [State.headNotice, h', if_true, hp, List.tail_cons]
  rfl

/-- What `settle`, the queue's loss of its head and the handling keep, a receipt keeps. -/
theorem receive_keeps {α : Type} (P : State → Prop) (pick : Notice → Option α) (act : Station → α → State → State)
    (hSettle : ∀ s, P s → P s.settle) (hRecv : ∀ s : State, P s → P { s with recv := s.recv.tail })
    (hAct : ∀ st a s, P s → P (act st a s)) (s : State) (h : P s) : P (s.receive pick act) := by
  unfold State.receive
  simp only []
  split
  · exact h
  · split
    · exact h
    · exact hAct _ _ _ (hRecv _ (hSettle _ h))

end Sys2Proof.Machine
end

