-- ==== Sys2Proof/Laws/Outbound.lean ====
section
/-! SUPPORT. What the outbound queue's operations do to its length and to the other fields (R59 to R61). -/

namespace Sys2Proof.Machine

@[simp] theorem insertNotice_length (q : QNotice) (l : List QNotice) : (insertNotice q l).length = l.length + 1 := by
  induction l with
  | nil => rfl
  | cons x xs ih => by_cases h : q.notice.priority < x.notice.priority <;> simp [insertNotice, h, ih]

/-- What the queue holds after an insertion. -/
theorem mem_insertNotice {q x : QNotice} {l : List QNotice} : x ∈ insertNotice q l ↔ x = q ∨ x ∈ l := by
  induction l with
  | nil => simp [insertNotice]
  | cons y ys ih =>
    by_cases h : q.notice.priority < y.notice.priority
    · simp [insertNotice, h]
    · simp only [insertNotice, h, if_false, List.mem_cons, ih]
      exact or_left_comm

/-- An appended notice is queued (R59). -/
theorem append_has (same : Notice → Bool) (n : Notice) (final : Bool) (o : Outbound) (h : same n = true) :
    (o.append n final).has same = true := by
  unfold Outbound.has Outbound.append
  exact List.any_eq_true.2 ⟨enter n final, mem_insertNotice.2 (.inl rfl), h⟩

@[simp] theorem replace_length (same : Notice → Bool) (n : Notice) (final : Bool) (o : Outbound) :
    (o.replace same n final).queue.length = o.queue.length := by
  unfold Outbound.replace
  split <;> simp

/-- An offer of USAGE, SHARE or PRESENCE keeps the queue within 8 notices (R59). -/
theorem offer_length {same : Notice → Bool} {room : Bool} {n : Notice} {o : Outbound}
    (hr : room = true → o.queue.length < Config.outboundSlots) (h : o.queue.length ≤ Config.outboundSlots) :
    (o.offer same room n).queue.length ≤ Config.outboundSlots := by
  unfold Outbound.offer
  split
  · simpa using h
  · split
    · rename_i hroom
      have := hr hroom
      simp only [Outbound.append, insertNotice_length]
      omega
    · exact h

/-- The departure of a notice leaves the queue itself alone. -/
@[simp] theorem depart_out (q : QNotice) (e : NoticeEnd) (s : State) : (s.depart q e).out = s.out := by
  unfold State.depart
  cases q.notice <;> simp only []
  split
  all_goals cases e <;> simp only [State.setDue] <;> (try split) <;> rfl

/-- A final notice that is placed keeps the queue within 8 notices (R35). -/
theorem placeFinal_length {n : Nat} {s t : State} (h : s.out.queue.length ≤ Config.outboundSlots) (ht : s.placeFinal n = some t) :
    t.out.queue.length ≤ Config.outboundSlots := by
  unfold State.placeFinal at ht
  split at ht
  · cases ht
    simpa using h
  · split at ht
    · rename_i hr
      cases ht
      simp only [usageRoom, Bool.and_eq_true, decide_eq_true_eq] at hr
      simp only [Outbound.append, insertNotice_length]
      omega
    · split at ht
      · cases ht
      · rename_i q hq
        cases ht
        have hm : q ∈ s.out.queue := by simpa using List.mem_of_find?_eq_some hq
        have := List.length_pos_of_mem hm
        simp only [depart_out, Outbound.append, insertNotice_length, List.length_erase_of_mem hm]
        omega

/-- Placing the waiting final notices keeps the queue within 8 notices (R36). -/
theorem placeWaiting_length {s : State} (h : s.out.queue.length ≤ Config.outboundSlots) :
    s.placeWaiting.out.queue.length ≤ Config.outboundSlots := by
  unfold State.placeWaiting
  apply foldl_keeps (fun t : State => t.out.queue.length ≤ Config.outboundSlots) _ _ _ s h
  intro t n ht
  unfold State.placeOneWaiting
  split
  · exact ht
  · rename_i hu
    have := placeFinal_length ht hu
    exact this

/-- A final notice placed by USER-RETIRE: as `placeFinal` places it, and after a displacement with the waiting ones tried (R35, R36). -/
theorem placeNow_eq {n : Nat} {s t : State} (h : s.placeNow n = some t) :
    ∃ u, s.placeFinal n = some u ∧ (t = u ∨ t = u.placeWaiting) := by
  unfold State.placeNow at h
  split at h
  · exact ⟨t, h, .inl rfl⟩
  · rw [Option.map_eq_some_iff] at h
    obtain ⟨u, hu, rfl⟩ := h
    exact ⟨u, hu, .inr rfl⟩

/-- A final notice placed by USER-RETIRE keeps the queue within 8 notices (R35, R36). -/
theorem placeNow_length {n : Nat} {s t : State} (h : s.out.queue.length ≤ Config.outboundSlots) (ht : s.placeNow n = some t) :
    t.out.queue.length ≤ Config.outboundSlots := by
  obtain ⟨u, hu, rfl | rfl⟩ := placeNow_eq ht
  · exact placeFinal_length h hu
  · exact placeWaiting_length (placeFinal_length h hu)

end Sys2Proof.Machine
end

