-- ==== Sys2Proof/Laws/Outer.lean ====
section
/-! SUPPORT. What the outbound queue's work and the follow-on steps leave alone: the Local Link, the settings, the station number, the Timebase, the
holds, the sweep, the grace scan and the queue of commands. -/

namespace Sys2Proof.Machine

/-- The part of the state that no follow-on step writes. -/
def State.outer (s : State) :
    Link × Option Settings × Station × Timebase × Bool × Bool × List Instr × List Hold × Sweep × GraceScan × Nat × Bool × List Nat :=
  (s.link, s.cfg, s.station, s.tb, s.resetLow, s.ignored, s.pending, s.holds, s.sweep, s.scan, s.peerTotal, s.ownFrame, s.watch)

/-- The same without the watch list, which the freeing of a record writes. -/
def State.outmost (s : State) :
    Link × Option Settings × Station × Timebase × Bool × Bool × List Instr × List Hold × Sweep × GraceScan × Nat × Bool :=
  (s.link, s.cfg, s.station, s.tb, s.resetLow, s.ignored, s.pending, s.holds, s.sweep, s.scan, s.peerTotal, s.ownFrame)

theorem outmost_of_outer {s t : State} (h : t.outer = s.outer) : t.outmost = s.outmost := by
  simp only [State.outer, State.outmost, Prod.mk.injEq] at h ⊢
  simp [h]

theorem depart_outer (q : QNotice) (e : NoticeEnd) (s : State) : (s.depart q e).outer = s.outer := by
  unfold State.depart State.outer
  cases q.notice <;> simp only []
  split <;> cases e <;> simp only [] <;> first | rfl | (split <;> rfl)

theorem placeFinal_outer {n : Nat} {s t : State} (h : s.placeFinal n = some t) : t.outer = s.outer := by
  unfold State.placeFinal at h
  split at h
  · cases h; rfl
  · split at h
    · cases h; rfl
    · split at h
      · cases h
      · cases h
        exact depart_outer _ _ _

theorem placeWaiting_outer (s : State) : s.placeWaiting.outer = s.outer := by
  unfold State.placeWaiting
  apply foldl_keeps (fun t : State => t.outer = s.outer) _ _ _ s rfl
  intro t n h
  unfold State.placeOneWaiting
  split
  · exact h
  · rename_i u hu
    exact (placeFinal_outer hu).trans h

theorem placeNow_outer {n : Nat} {s t : State} (h : s.placeNow n = some t) : t.outer = s.outer := by
  obtain ⟨u, hu, rfl | rfl⟩ := placeNow_eq h
  · exact placeFinal_outer hu
  · rw [placeWaiting_outer, placeFinal_outer hu]

theorem withdraw_outer (p : Notice → Bool) (s : State) : (s.withdraw p).outer = s.outer := by
  unfold State.withdraw
  split
  · rfl
  · rw [placeWaiting_outer, depart_outer]
    rfl

theorem offerEpoch_outer (n : Notice) (s : State) : (s.offerEpoch n).outer = s.outer := by
  unfold State.offerEpoch
  split
  · rfl
  · split
    · rfl
    · split
      · rfl
      · rw [depart_outer, placeWaiting_outer]
        rfl

theorem endTransmission_outer (e : NoticeEnd) (s : State) : (s.endTransmission e).outer = s.outer := by
  unfold State.endTransmission
  split
  · rfl
  · split <;> rw [placeWaiting_outer, depart_outer] <;> rfl

theorem failAttempt_outer (s : State) : s.failAttempt.outer = s.outer := by
  unfold State.failAttempt
  split
  · rfl
  · split
    · exact endTransmission_outer _ _
    · rw [placeWaiting_outer]
      rfl

theorem abandonAttempt_outer (s : State) : s.abandonAttempt.outer = s.outer := by
  unfold State.abandonAttempt
  split
  · exact endTransmission_outer _ _
  · rfl

theorem closeTest_outer (e : Epoch) (s : State) : (s.closeTest e).outer = s.outer := by
  unfold State.closeTest
  split
  · rfl
  · split <;> rfl

theorem abandonAsked_outer (b : Bool) (s : State) : (s.abandonAsked b).outer = s.outer := by
  unfold State.abandonAsked
  split
  · rfl
  · simp only []
    split
    · rw [withdraw_outer]
      rfl
    · rfl

theorem dropRequired_outer (st : Station) (s : State) (e : Epoch) : (s.dropRequired st e).outer = s.outer := by
  unfold State.dropRequired
  split
  · rfl
  · split
    · rw [closeTest_outer]
      rfl
    · rfl

theorem agePeer_outer (st : Station) (s : State) : (s.agePeer st).outer = s.outer := by
  unfold State.agePeer
  split
  · apply foldl_keeps (fun t : State => t.outer = s.outer)
    · intro t e h
      rw [dropRequired_outer, h]
    · rfl
  · rfl

theorem expireAsk_outer (s : State) : s.expireAsk.outer = s.outer := by
  unfold State.expireAsk
  split
  · rfl
  · split
    · exact abandonAsked_outer _ _
    · rfl

theorem expireClose_outer (e : Epoch) (s : State) : (s.expireClose e).outer = s.outer := by
  unfold State.expireClose
  split
  · rfl
  · split <;> rfl

theorem offerRelease_outer (i : Fin 8) (s : State) : (s.offerRelease i).outer = s.outer := by
  unfold State.offerRelease
  split
  · rfl
  · split <;> rfl

theorem expireWindow_outer (s : State) : s.expireWindow.outer = s.outer := by
  unfold State.expireWindow
  split <;> rfl

theorem takeStretched_outer (s : State) : s.takeStretched.outer = s.outer := by
  unfold State.takeStretched
  split
  · split <;> rfl
  · rfl
  · rfl
  · rfl

theorem dueAfterLoss_outer (n : Nat) (s : State) : (s.dueAfterLoss n).outer = s.outer := by
  unfold State.dueAfterLoss
  split
  · simp only []
    split <;> rfl
  · rfl

theorem freeRetired_outmost (n : Nat) (s : State) : (s.freeRetired n).outmost = s.outmost := by
  unfold State.freeRetired
  split
  · simp only []
    split <;> rfl
  · rfl

/-- What earlier events left owed never reaches the Local Link, the settings, the station number, the Timebase, the holds, the sweep, the
grace scan or the queue of commands. -/
theorem settle_outmost (s : State) : s.settle.outmost = s.outmost :=
  settle_keeps (fun t => t.outmost = s.outmost) (fun t n h => (freeRetired_outmost n t).trans h)
    (fun t n h => (outmost_of_outer (dueAfterLoss_outer n t)).trans h) (fun t h => (outmost_of_outer (takeStretched_outer t)).trans h)
    (fun t st h => (outmost_of_outer (agePeer_outer st t)).trans h) (fun t h => (outmost_of_outer (expireAsk_outer t)).trans h)
    (fun t e h => (outmost_of_outer (expireClose_outer e t)).trans h) (fun t i h => (outmost_of_outer (offerRelease_outer i t)).trans h)
    (fun t h => (outmost_of_outer (expireWindow_outer t)).trans h) s rfl

/-- Each part of an unchanged `outmost` is unchanged. -/
theorem outmost_parts {s t : State} (h : t.outmost = s.outmost) :
    t.link = s.link ∧ t.cfg = s.cfg ∧ t.station = s.station ∧ t.tb = s.tb ∧ t.resetLow = s.resetLow ∧ t.ignored = s.ignored ∧
    t.pending = s.pending ∧ t.holds = s.holds ∧ t.sweep = s.sweep ∧ t.scan = s.scan ∧ t.peerTotal = s.peerTotal ∧ t.ownFrame = s.ownFrame := by
  simpa only [State.outmost, Prod.mk.injEq] using h

@[simp] theorem settle_link (s : State) : s.settle.link = s.link := (outmost_parts (settle_outmost s)).1
@[simp] theorem settle_cfg (s : State) : s.settle.cfg = s.cfg := (outmost_parts (settle_outmost s)).2.1
@[simp] theorem settle_station (s : State) : s.settle.station = s.station := (outmost_parts (settle_outmost s)).2.2.1
@[simp] theorem settle_tb (s : State) : s.settle.tb = s.tb := (outmost_parts (settle_outmost s)).2.2.2.1
@[simp] theorem settle_resetLow (s : State) : s.settle.resetLow = s.resetLow := (outmost_parts (settle_outmost s)).2.2.2.2.1
@[simp] theorem settle_ignored (s : State) : s.settle.ignored = s.ignored := (outmost_parts (settle_outmost s)).2.2.2.2.2.1
@[simp] theorem settle_pending (s : State) : s.settle.pending = s.pending := (outmost_parts (settle_outmost s)).2.2.2.2.2.2.1
@[simp] theorem settle_holds (s : State) : s.settle.holds = s.holds := (outmost_parts (settle_outmost s)).2.2.2.2.2.2.2.1
@[simp] theorem settle_sweep (s : State) : s.settle.sweep = s.sweep := (outmost_parts (settle_outmost s)).2.2.2.2.2.2.2.2.1
@[simp] theorem settle_scan (s : State) : s.settle.scan = s.scan := (outmost_parts (settle_outmost s)).2.2.2.2.2.2.2.2.2.1
@[simp] theorem settle_peerTotal (s : State) : s.settle.peerTotal = s.peerTotal := (outmost_parts (settle_outmost s)).2.2.2.2.2.2.2.2.2.2.1
@[simp] theorem settle_ownFrame (s : State) : s.settle.ownFrame = s.ownFrame := (outmost_parts (settle_outmost s)).2.2.2.2.2.2.2.2.2.2.2

/-- The settings are those accepted. -/
@[simp] theorem settle_settings (s : State) : s.settle.settings = s.settings := by
  unfold State.settings
  rw [settle_cfg]

end Sys2Proof.Machine
end

