-- ==== Sys2Proof/Laws/Records.lean ====
section
/-! SUPPORT. Numbers as bytes and bits read back: the lemmas by which records and notices are read back from what is sent. -/

namespace Sys2Proof.Machine

/-! ### Bytes -/

@[simp] theorem bytesOf_length (n v : Nat) : (bytesOf n v).length = n := by
  induction n with
  | zero => rfl
  | succ n ih => simp [bytesOf, ih]

theorem foldl_bytes (a : Nat) (l : List Byte) :
    l.foldl (fun a x => a * 256 + x.toNat) a = a * 256 ^ l.length + l.foldl (fun a x => a * 256 + x.toNat) 0 := by
  induction l generalizing a with
  | nil => simp
  | cons x xs ih =>
    rw [List.foldl_cons, ih, List.foldl_cons, ih (0 * 256 + x.toNat), List.length_cons, Nat.pow_succ']
    simp only [Nat.zero_mul, Nat.zero_add, Nat.add_mul, Nat.mul_assoc, Nat.add_assoc]

theorem numberOf_cons (x : Byte) (l : List Byte) : numberOf (x :: l) = x.toNat * 256 ^ l.length + numberOf l := by
  unfold numberOf
  rw [List.foldl_cons, foldl_bytes]
  simp

/-- A number that fits its field reads back. -/
theorem numberOf_bytesOf (n v : Nat) : numberOf (bytesOf n v) = v % 256 ^ n := by
  induction n with
  | zero => simp [bytesOf, numberOf, Nat.mod_one]
  | succ n ih =>
    rw [bytesOf, numberOf_cons, ih, bytesOf_length, BitVec.toNat_ofNat, Nat.pow_succ 256 n, Nat.mod_mul,
      show (2 : Nat) ^ 8 = 256 from rfl, Nat.mul_comm, Nat.add_comm]

/-! ### Fields -/

theorem fieldAt_cons (x : Byte) (l : List Byte) (k n : Nat) : fieldAt (x :: l) (k + 1) n = fieldAt l k n := rfl

theorem fieldAt_skip {m k : Nat} (v : Nat) (l : List Byte) (n : Nat) (h : m ≤ k) :
    fieldAt (bytesOf m v ++ l) k n = fieldAt l (k - m) n := by
  unfold fieldAt
  rw [List.drop_append, List.drop_eq_nil_of_le (by simpa using h), bytesOf_length, List.nil_append]

theorem fieldAt_here {n v : Nat} (l : List Byte) (h : fitsBytes n v = true) : fieldAt (bytesOf n v ++ l) 0 n = v := by
  have h' : v < 256 ^ n := by simpa [fitsBytes] using h
  unfold fieldAt
  rw [List.drop_zero, List.take_append_of_le_length (by simp), List.take_of_length_le (by simp), numberOf_bytesOf, Nat.mod_eq_of_lt h']

theorem fieldAt_last {n v : Nat} (h : fitsBytes n v = true) : fieldAt (bytesOf n v) 0 n = v := by
  simpa using fieldAt_here [] h

theorem fits_bits {n : Nat} (w : Nat) (e : BitVec w) (h : 2 ^ w ≤ 256 ^ n) : fitsBytes n e.toNat = true := by
  simpa [fitsBytes] using Nat.lt_of_lt_of_le e.isLt h

/-- The code of a record is its first byte. -/
theorem fieldAt_code (x : Byte) (l : List Byte) : fieldAt (x :: l) 0 1 = x.toNat := by
  simp [fieldAt, numberOf]

/-! ### Bits of a transaction -/

theorem numberOfBits_append (a b : List Bool) : numberOfBits (a ++ b) = numberOfBits a * 2 ^ b.length + numberOfBits b := by
  have h : ∀ (l : List Bool) (n : Nat), l.foldl (fun n x => 2 * n + x.toNat) n = n * 2 ^ l.length + l.foldl (fun n x => 2 * n + x.toNat) 0 := by
    intro l
    induction l with
    | nil => simp
    | cons x xs ih =>
      intro n
      rw [List.foldl_cons, List.foldl_cons, ih (2 * n + x.toNat), ih (2 * 0 + x.toNat), List.length_cons, Nat.pow_succ']
      simp only [Nat.zero_mul, Nat.zero_add, Nat.add_mul, Nat.mul_assoc, Nat.mul_comm 2, Nat.add_assoc]
  unfold numberOfBits
  rw [List.foldl_append, h]

theorem numberOfBits_lt (b : List Bool) : numberOfBits b < 2 ^ b.length := by
  induction b with
  | nil => simp [numberOfBits]
  | cons x xs ih =>
    have h := numberOfBits_append [x] xs
    have hx : numberOfBits [x] ≤ 1 := by cases x <;> decide
    have hm := Nat.mul_le_mul_right (2 ^ xs.length) hx
    rw [List.singleton_append] at h
    rw [List.length_cons, Nat.pow_succ]
    omega

/-- Bits below a place do not see what stands above it. -/
theorem bitsOf_above {w n k v : Nat} (hk : k < 2 ^ w) (hv : v ≤ w) : bitsOf v (2 ^ w * n + k) = bitsOf v k := by
  induction v with
  | zero => rfl
  | succ v ih => rw [bitsOf, bitsOf, ih (by omega), Nat.testBit_two_pow_mul_add _ hk, if_pos (by omega)]

/-- The samples of a transaction read back from the number they spell (R180). -/
theorem bitsOf_numberOfBits (b : List Bool) : bitsOf b.length (numberOfBits b) = b := by
  induction b with
  | nil => rfl
  | cons x xs ih =>
    have h := numberOfBits_append [x] xs
    have hb : (numberOfBits [x]).testBit 0 = x := by cases x <;> rfl
    rw [List.singleton_append, Nat.mul_comm] at h
    rw [h, List.length_cons, bitsOf, bitsOf_above (numberOfBits_lt xs) (Nat.le_refl _), ih,
      Nat.testBit_two_pow_mul_add _ (numberOfBits_lt xs), if_neg (by omega), Nat.sub_self, hb]

theorem byteOfBits_bitsOf : ∀ n < 256, byteOfBits (bitsOf 8 n) = BitVec.ofNat 8 n := by decide +kernel

/-- A byte shifted most significant bit first is sampled as itself (R180). -/
theorem byteOfBits_byteBits (x : Byte) : byteOfBits (byteBits x) = x := by
  unfold byteBits
  rw [byteOfBits_bitsOf _ x.isLt]
  simp

theorem octets_cons (x : Byte) (rest : List Bool) : octets (byteBits x ++ rest) = (x :: (octets rest).1, (octets rest).2) := by
  have h : octets (byteBits x ++ rest) = (byteOfBits (byteBits x) :: (octets rest).1, (octets rest).2) := by
    simp only [byteBits, bitsOf, List.cons_append, List.nil_append, octets]
  rw [h, byteOfBits_byteBits]

theorem octets_tail {tail : List Bool} (h : tail.length < 8) : octets tail = ([], !tail.isEmpty) := by
  match tail with
  | [] => rfl
  | [_] => rfl
  | [_, _] => rfl
  | [_, _, _] => rfl
  | [_, _, _, _] => rfl
  | [_, _, _, _, _] => rfl
  | [_, _, _, _, _, _] => rfl
  | [_, _, _, _, _, _, _] => rfl
  | _ :: _ :: _ :: _ :: _ :: _ :: _ :: _ :: _ =>
    simp only [List.length_cons] at h
    omega

/-- The samples of a transaction read back: its whole bytes, and whether fewer than 8 samples follow them (R180). -/
theorem octets_shifted (b : List Byte) {tail : List Bool} (h : tail.length < 8) :
    octets (shiftedBits b ++ tail) = (b, !tail.isEmpty) := by
  induction b with
  | nil => simpa [shiftedBits] using octets_tail h
  | cons x xs ih =>
    have ih' : octets (xs.flatMap byteBits ++ tail) = (xs, !tail.isEmpty) := ih
    simp only [shiftedBits, List.flatMap_cons, List.append_assoc, octets_cons, ih']

end Sys2Proof.Machine
end

