-- ==== Sys2Proof/Laws/Requests.lean ====
section
/-! SUPPORT. What a request and an access come to, in the terms the statements use; and the small facts of lookups, slots and sets that
their proofs share. In a proof over the commands, `seal State.settle` keeps Lean from unfolding the settling. -/

namespace Sys2Proof.Machine

/-! ### Requests -/

/-- The command of a request ends its transaction and hands the request over (R182, R183). -/
theorem exec_command (s : State) (r : Request) : exec r.command s = .next (s.endWith r (handOver r)) := by
  cases r <;> rfl

/-- A request taken at once that the station takes: its block's answer on the state at its taking (R183). -/
theorem exec_takenAtOnce {r : Request} {handle : State → Answer} {s : State} (h : s.listens)
    (ht : s.link.running = true ∨ r.takenUnconfigured = true) (hc : handOver r = State.takeAtOnce r.code handle) (hr : r ≠ .nop) :
    exec r.command s = .next (State.answer (handle s.atTaking).2.1 r.code false (handle s.atTaking).2.2 (handle s.atTaking).1) := by
  rw [exec_command, hc, ← State.requestAtOnce, requestAtOnce_taken h hr ht]

@[simp] theorem atTaking_running (s : State) : s.atTaking.link.running = s.link.running := by
  simp [State.atTaking, State.afterTransaction]

@[simp] theorem atTaking_tb (s : State) : s.atTaking.tb = s.tb := by simp [State.atTaking, State.afterTransaction]

@[simp] theorem atTaking_station (s : State) : s.atTaking.station = s.station := by simp [State.atTaking, State.afterTransaction]

@[simp] theorem atTaking_sweep (s : State) : s.atTaking.sweep = s.sweep := by simp [State.atTaking, State.afterTransaction]

@[simp] theorem atTaking_holds (s : State) : s.atTaking.holds = s.holds := by simp [State.atTaking, State.afterTransaction]

@[simp] theorem atTaking_peerTotal (s : State) : s.atTaking.peerTotal = s.peerTotal := by simp [State.atTaking, State.afterTransaction]

@[simp] theorem atTaking_settings (s : State) : s.atTaking.settings = s.settings := by
  unfold State.settings
  simp [State.atTaking, State.afterTransaction]

/-! ### Accesses -/

@[simp] theorem granted_settings (s : State) : s.granted.settings = s.settings := by
  unfold State.granted State.settings
  simp

theorem granted_findUser (s : State) (n : Nat) : s.granted.findUser n = s.settle.findUser n := by
  simp only [State.granted, State.findUser]

theorem granted_findActive (s : State) (n : Nat) : s.granted.findActive n = s.settle.findActive n := by
  simp only [State.findActive, granted_findUser]

/-- The checks of R25 passed. -/
theorem withUser_found {s : State} {n : Nat} {u : UserRec} {refused : UserBlock → ReplyBody} {act : UserRec → State → Answer}
    (h0 : n ≠ 0) (h : s.findActive n = some u) : s.withUser n refused act = act u s := by
  unfold State.withUser
  rw [if_neg h0, h]

/-- No record, or a RETIRING one (R25). -/
theorem withUser_unknown {s : State} {n : Nat} {refused : UserBlock → ReplyBody} {act : UserRec → State → Answer} (h0 : n ≠ 0)
    (h : s.findActive n = none) : s.withUser n refused act = (s, .unknownUser, refused (noUser n)) := by
  unfold State.withUser
  rw [if_neg h0, h]

/-- User number 0 (R25). -/
theorem withUser_zero {s : State} {refused : UserBlock → ReplyBody} {act : UserRec → State → Answer} :
    s.withUser 0 refused act = (s, .badRequest, .empty) := by
  unfold State.withUser
  rw [if_pos rfl]

/-- The block of R26 of a record that is there. -/
theorem userBlock_found {t : State} {user : Nat} {u : UserRec} (h : t.findUser user = some u) :
    t.userBlock user = { user := user, state := some u.state, estimate := some (estimate t.settings.heldWeight u) } := by
  unfold State.userBlock
  rw [h]

@[simp] theorem reevaluate_user (w g : Nat) (u : UserRec) : (reevaluate w g u).user = u.user := by
  obtain ⟨x, h⟩ := reevaluate_eq w g u
  rw [h]

theorem remoteUnits_eq (l : List RemoteEntry) : remoteUnits l = (l.map RemoteEntry.units).sum := by
  induction l with
  | nil => rfl
  | cons x xs ih => simp [remoteUnits, ih]

theorem dupUnits_eq (l : List DupEntry) : dupUnits l = (l.map fun q => q.work.units).sum := by
  induction l with
  | nil => rfl
  | cons x xs ih => simp [dupUnits, ih]

/-! ### Slots -/

theorem lowestSlot_some {p : Fin 8 → Bool} {i : Fin 8} (h : p i = true) (hi : ∀ k, k < i → p k = false) : lowestSlot p = some i := by
  unfold lowestSlot
  rw [List.find?_eq_some_iff_getElem]
  refine ⟨h, i.val, by simp, by simp, ?_⟩
  intro j hj
  simp [hi ⟨j, by omega⟩ hj]

theorem lowestSlot_none {p : Fin 8 → Bool} (h : ∀ k, p k = false) : lowestSlot p = none := by
  unfold lowestSlot
  rw [List.find?_eq_none]
  intro x _
  simp [h x]

/-! ### The catalogue -/

theorem modifyFirst_comp {p : CatEntry → Bool} {f g : CatEntry → CatEntry} (l : List CatEntry) (h : ∀ x, p (f x) = p x) :
    modifyFirst p g (modifyFirst p f l) = modifyFirst p (g ∘ f) l := by
  induction l with
  | nil => rfl
  | cons x xs ih => by_cases hx : p x <;> simp [modifyFirst, hx, h, ih]

theorem eraseP_modifyFirst {p : CatEntry → Bool} {f : CatEntry → CatEntry} (l : List CatEntry) (h : ∀ x, p (f x) = p x) :
    (modifyFirst p f l).eraseP p = l.eraseP p := by
  induction l with
  | nil => rfl
  | cons x xs ih => by_cases hx : p x <;> simp [modifyFirst, hx, h, ih]

theorem modifyFirst_congr {p : CatEntry → Bool} {f g : CatEntry → CatEntry} {l : List CatEntry} {c : CatEntry} (h : l.find? p = some c)
    (hc : f c = g c) : modifyFirst p f l = modifyFirst p g l := by
  induction l with
  | nil => rfl
  | cons x xs ih =>
    by_cases hx : p x
    · simp only [List.find?_cons, hx, Option.some.injEq] at h
      subst h
      simp [modifyFirst, hx, hc]
    · simp only [List.find?_cons, hx] at h
      simp [modifyFirst, hx, ih h]

theorem find_modifyFirst {p : CatEntry → Bool} {f : CatEntry → CatEntry} {l : List CatEntry} {c : CatEntry} (h : l.find? p = some c)
    (hp : p (f c) = true) : (modifyFirst p f l).find? p = some (f c) := by
  induction l with
  | nil => simp at h
  | cons x xs ih =>
    by_cases hx : p x
    · simp only [List.find?_cons, hx, Option.some.injEq] at h
      subst h
      simp [modifyFirst, hx, hp]
    · simp only [List.find?_cons, hx] at h
      simp [modifyFirst, hx, ih h]

/-- The close test runs in no state but READY (R108). -/
theorem closeTest_other {s : State} {e : Epoch} {c : CatEntry} (h : s.findEpoch e = some c) (hs : c.state ≠ .ready) : s.closeTest e = s := by
  unfold State.closeTest
  rw [h]
  simp only []
  rw [if_neg]
  simp [closes, hs]

/-! ### Station sets -/

theorem inSet_addTo (st x : Station) (set : StationSet) : inSet st (addTo x set) = (inSet st set || decide (st = x)) := by
  unfold inSet addTo oneStation
  have := st.isLt
  have := x.isLt
  rw [Bool.eq_iff_iff]
  simp only [Fin.ext_iff, BitVec.getLsbD_or, Bool.or_eq_true, decide_eq_true_eq]
  by_cases hx : st.val = x.val
  · simp [hx]
  · simp [hx]
    omega

/-- The PRESENT stations (R75). -/
theorem inSet_presentSet (t : State) (st : Station) : inSet st t.presentSet = decide ((t.peer st).state = .present) := by
  unfold State.presentSet
  have key : ∀ (l : List Station) (set : StationSet),
      inSet st (l.foldl (fun set st => if (t.peer st).state = .present then addTo st set else set) set) =
        (inSet st set || (decide (st ∈ l) && decide ((t.peer st).state = .present))) := by
    intro l
    induction l with
    | nil =>
      intro set
      simp
    | cons x xs ih =>
      intro set
      rw [List.foldl_cons, ih]
      by_cases hx : st = x
      · subst hx
        by_cases hp : (t.peer st).state = .present <;> simp [hp, inSet_addTo]
      · by_cases hp : (t.peer x).state = .present <;> simp [hp, inSet_addTo, hx]
  rw [key]
  simp [inSet]

/-! ### The window -/

theorem expireWindow_window (s : State) : s.expireWindow.dup.window ≠ some 0 := by
  unfold State.expireWindow
  split
  · simp [State.closeWindow, State.raise, State.offerShare, Dup.closed]
  · assumption

/-- A settled state holds no window that has run out (R160). -/
theorem settle_window (s : State) : s.settle.dup.window ≠ some 0 := by
  unfold State.settle
  simp only []
  apply foldl_keeps (fun t : State => t.dup.window ≠ some 0)
  · intro b x hb
    unfold State.dueAfterLoss
    split
    · simp only []
      split <;> exact hb
    · exact hb
  · exact expireWindow_window _

end Sys2Proof.Machine
end

