-- ==== Sys2Proof/Tests/Slice0.lean ====
section
/-! SUPPORT. Checks of the writing: the ill-formed terms that the check refuses, worked figures of the manual, one step of each kind of
command, and states that meet the hypotheses of the statements (`test_witness_…`). -/

namespace Sys2Proof.Tests

-- One proof at a time: each is small, and in parallel they ask for more threads than the memory limit allows.
set_option Elab.async false

open Sys2Proof.Machine

/-! ### Small states -/

/-- Settings in their ranges. -/
def conf : Settings :=
  { frameLength := 10, lineRate := 1, heldWeight := 4, grace := 2, reportStep := 10, digestBatch := 4, digestGap := 3, goneAge := 3
    askLimit := 2, closeLimit := 3, idleLimit := 2, capacity := 3000, windowLimit := 5, userRecords := 64, holdRecords := 256
    dupEntries := 64 }

/-- The least settings. -/
def least : Settings :=
  { frameLength := 1, lineRate := 1, heldWeight := 0, grace := 0, reportStep := 1, digestBatch := 1, digestGap := 0, goneAge := 2
    askLimit := 1, closeLimit := 1, idleLimit := 1, capacity := 1, windowLimit := 1, userRecords := 64, holdRecords := 256
    dupEntries := 64 }

/-- The greatest settings field by field, but for the user records, which 98,304 words cannot hold beside them. -/
def greatest : Settings :=
  { frameLength := 60, lineRate := 4, heldWeight := 8, grace := 1048575, reportStep := 65535, digestBatch := 255, digestGap := 255
    goneAge := 255, askLimit := 255, closeLimit := 255, idleLimit := 255, capacity := 65535, windowLimit := 65535, userRecords := 4992
    holdRecords := 8192, dupEntries := 1024 }

/-- A RUNNING station 3 with an idle line, on the reference. -/
def up : State :=
  { State.reset with
    station := 3
    cfg := some conf
    link := { State.reset.link with running := true }
    line := { state := .idle, rx := .noFrame, sendBits := [] }
    digest := { State.reset.digest with gapTimer := 3 }
    tb := { source := .reference, refPresent := true, switchBack := false, timer := 0, frame := 7 } }

/-- The record of user 7: E = 50 + 10 + 4 + 5 = 69. -/
def ada : UserRec :=
  { user := 7, state := .under, soft := 100, hard := 200, live := 50, held := 8, reserved := 10, reported := 60, reportDue := false
    remote := [{ station := 1, units := 5 }], spill := 0 }

/-- A record with nothing in it. -/
def idle (user : Nat) (state : UserState) : UserRec :=
  { user := user, state := state, soft := 0, hard := 0, live := 0, held := 0, reserved := 0, reported := 0, reportDue := false
    remote := [], spill := 0 }

/-- The machine with these records. -/
def withUsers (l : List UserRec) (s : State) : State := { s with users := l }

/-- The waiting access `a` is the oldest client of class 1. -/
def serving (a : Access) (s : State) : State :=
  { s with
    link := { s.link with inProgress := some { code := Access.code a, mark := false, work := .access a } }
    class1 := [.request] }

/-- The entry of an epoch. -/
def entry (e : Epoch) (state : CatState) : CatEntry :=
  { epoch := e, state := state, proposer := 3, early := if state = .asked then some 0#16 else none
    required := if state = .asked then none else some 3#16, ready := if state = .asked then none else some 1#16, missing := none
    timer := if state = .asked ∨ state = .ready then some 2 else none, heldTotal := 0, holdCount := 0, pins := 0, dupState := .notQueued
    failedExtent := false, queuedCount := 0, inFlight := 0 }

/-- The machine with these entries, the first of them the latest epoch. -/
def withCat (l : List CatEntry) (s : State) : State := { s with cat := l, latest := l.head?.map CatEntry.epoch }

/-- A job of user 7 in epoch 5. -/
def job : Job := { user := 7, epoch := 5, remaining := 10, moved := 4, idle := 2, releaseWaiting := false }

/-- The machine with that job in slot 0, generation 1. -/
def withJob (j : Job) (s : State) : State := { s with jobs := s.jobs.set 0 { gen := 1, job := some j } }

/-- A queued EXTENT of epoch 5. -/
def extent (units : Nat) (parity : Bool) : DupEntry := { work := .extent 5 9 units, parity := parity, retries := 0 }

/-- The window open on night 1 with a budget of 50 and this queue. -/
def night (queue : List DupEntry) (s : State) : State :=
  { s with dup := { s.dup with queue := queue, window := some 4, night := 1, share := 50, frameBudget := 50, remaining := 50 } }

/-- A grant of slot 0, generation 1. -/
def granting (g : Grant) (s : State) : State := { s with dup := { s.dup with grants := s.dup.grants.set 0 { gen := 1, grant := some g } } }

/-- The machine with a notice of station 2 available at the head of the receive queue. -/
def received (n : Notice) (s : State) : State := { s with recv := [{ sender := 2, notice := n, available := true }] }

/-- Station 2 in a state, heard `frames` ago. -/
def peerTwo (state : PeerState) (frames : Nat) (s : State) : State :=
  { s with peers := s.peers.set 2 { state := state, framesSince := frames, latest := none, backlog := some 40, shareAge := 1 } }

/-- The machine sending the head of this queue. -/
def sending (n : Notice) (attempts : Nat) (s : State) : State :=
  { s with
    out := { s.out with queue := [{ notice := n, attempts := attempts, sending := true, final := false }] }
    line := { state := .sending, rx := .noFrame, sendBits := frameBits 3 n } }

/-- Four notices in the receive queue. -/
def full : List RxNotice := List.replicate 4 { sender := 2, notice := .presence none, available := true }

/-- The state a command leaves; the state before it where it does not answer. -/
def after (c : Instr) (s : State) : State :=
  match exec c s with
  | .next t => t
  | .fault _ => s
  | .refused _ => s

/-- The reply pending after a command. -/
def reply (c : Instr) (s : State) : Option (Status × ReplyBody) := (after c s).link.reply.map fun r => (r.status, r.body)

/-! ### The check refuses ill-formed terms -/

theorem test_wf_charge_user : (Instr.charge 16777216 1).wf = false ∧ (Instr.charge 16777215 65535).wf = true := by decide
theorem test_wf_charge_n : (Instr.charge 1 65536).wf = false := by decide
theorem test_wf_credit : (Instr.credit 1 4294967296).wf = false ∧ (Instr.credit 1 4294967295).wf = true := by decide
theorem test_wf_load : (Instr.userLoad 1 4294967296 1 1).wf = false ∧ (Instr.userLoad 1 1 4294967296 1).wf = false ∧
    (Instr.userLoad 1 1 1 4294967296).wf = false ∧ (Instr.userLoad 16777216 1 1 1).wf = false := by decide
theorem test_wf_limits : (Instr.userLimits 1 4294967296 1).wf = false ∧ (Instr.userLimits 1 1 4294967296).wf = false := by decide
theorem test_wf_user : (Instr.userFreeze 16777216).wf = false ∧ (Instr.userThaw 16777216).wf = false ∧
    (Instr.userRetire 16777216).wf = false ∧ (Instr.userQuery 16777216).wf = false ∧ (Instr.userResync 16777216).wf = false ∧
    (Instr.userWatch 16777216).wf = false ∧ (Instr.userUnwatch 16777216).wf = false ∧ (Instr.retiringRecordFreed 16777216).wf = false ∧
    (Instr.reportDueAfterLoss 16777216).wf = false := by decide
theorem test_wf_hold : (Instr.hold 1 5 4294967296).wf = false ∧ (Instr.restoreBegin 1 5 16777216).wf = false := by decide
theorem test_wf_handle : (Instr.restoreProgress 256 1).wf = false ∧ (Instr.restoreProgress 1 16777216).wf = false ∧
    (Instr.restoreEnd 256).wf = false ∧ (Instr.grantDone 256 true).wf = false := by decide
theorem test_wf_samples : (Instr.linkTransactionOther 8 256).wf = false ∧ (Instr.linkTransactionOther 8 255).wf = true := by decide
theorem test_wf_taken : (Instr.localRequestTaken (.charge 1 65536)).wf = false := by decide
theorem test_wf_station : (Instr.peerQuery 256).wf = false ∧ (Instr.peerDrop 256).wf = false := by decide
theorem test_wf_units : (Instr.dupExtent 1 1 65536).wf = false := by decide
theorem test_wf_configure : (Instr.configure { conf with frameLength := 256 }).wf = false ∧
    (Instr.configure { conf with capacity := 65536 }).wf = false ∧ (Instr.configure { conf with grace := 16777216 }).wf = false ∧
    (Instr.configure conf).wf = true := by decide
theorem test_wf_bit : (Instr.arbitrationLost 10).wf = false ∧ (Instr.stationNumberClash 9).wf = false ∧
    (Instr.stationNumberClash 74).wf = false := by decide
theorem test_wf_frame :
    (Instr.noticeVerdict { priority := 0, kind := 3, station := 1, payload := [1], check := 0 }).wf = false ∧
    (Instr.noticeVerdict { priority := 0, kind := 3, station := 1, payload := [1, 2], check := 0 }).wf = true := by decide
theorem test_wf_count : (Instr.referenceFallback 600000000 true).wf = false := by decide

/-! ### Worked figures of the manual -/

/-- The frame lengths of the table in 3.2. -/
theorem test_clocked_bits : clockedBits (.epochPropose 1) = 36 ∧ clockedBits (.share 1) = 44 ∧ clockedBits (.usage 1 1) = 76 ∧
    clockedBits (.presence none) = 44 := by decide

/-- The shares of the table under R159. -/
theorem test_shares : shareOf 3000 12000 24000 = 1000 ∧ shareOf 3000 10 2000000 = 1 ∧ shareOf 3000 0 50000 = 0 ∧
    shareOf 5000 3000 7000 = 1500 ∧ shareOf 65535 4194304 0 = 65535 := by decide

/-- No row of the table gives bits, so no word spells a command. -/
theorem test_no_word : decodeTableWord 8 0 = none ∧ State.reset.withFetchWord 8 0 = State.reset := by decide

/-- A request record written out from 12.2: CHARGE, user 259, 2 AU. -/
theorem test_charge_record : parseRecord [16, 0, 1, 3, 0, 2] = .request (.access (.charge 259 2)) := by decide +kernel

/-- One byte short of its record, an unknown code, and a flag byte outside its codes (R182). -/
theorem test_bad_records : parseRecord [16, 0, 1, 3, 0] = .short ∧ parseRecord [6] = .malformed 6 ∧
    parseRecord [52, 0, 5, 2] = .malformed 52 ∧ parseRecord [50, 0, 5, 0] = .malformed 50 := by decide +kernel

/-! ### Steps -/

theorem test_step_idles : step up = .next up := rfl
theorem test_step_front :
    step { State.reset with pending := [.nop, .restart] } = exec .nop { State.reset with pending := [.restart] } := rfl
theorem test_not_configured : reply .snapTake State.reset = some (.notConfigured, .empty) := by decide +kernel
theorem test_configure : (after (.configure conf) State.reset).link.running = true ∧
    (after (.configure conf) State.reset).causes.length = 1 := by decide +kernel
theorem test_charge : reply (.charge 7 31) (serving (.charge 7 31) (withUsers [ada] up)) =
    some (.ok, .charge { user := 7, state := some .under, estimate := some 100 } (some 100)) := by decide +kernel
theorem test_charge_soft : reply (.charge 7 32) (serving (.charge 7 32) (withUsers [ada] up)) =
    some (.okSoft, .charge { user := 7, state := some (.grace 2), estimate := some 101 } (some 101)) := by decide +kernel
theorem test_charge_hard : reply (.charge 7 132) (serving (.charge 7 132) (withUsers [ada] up)) =
    some (.refusedHard, .charge { user := 7, state := some .under, estimate := some 69 } (some 201)) := by decide +kernel
theorem test_credit_clamped : reply (.credit 7 51) (serving (.credit 7 51) (withUsers [ada] up)) =
    some (.okClamped, .credit { user := 7, state := some .under, estimate := some 19 } 50) := by decide +kernel
theorem test_waits_its_turn : after (.charge 7 1) (withUsers [ada] up) = withUsers [ada] up := by decide +kernel
theorem test_snap_take : reply .snapTake up = some (.ok, .snapTake (some 1)) := by decide +kernel
theorem test_snap_wraps : reply .snapTake { up with latest := some 65535 } = some (.ok, .snapTake (some 0)) := by decide +kernel
theorem test_boundary : (after (.frameBoundary false) up).tb.frame = 8 ∧ (after (.frameBoundary false) up).out.queue.length = 1 := by
  decide +kernel
theorem test_boundary_wraps :
    (after (.frameBoundary false) { up with tb := { up.tb with frame := 4095 } }).tb.frame = 0 := by decide +kernel
theorem test_fallback : (after (.referenceFallback 99999499 false) up).tb.timer = 99999999 ∧
    (after (.referenceFallback 99999500 false) up).tb.timer = 0 := by decide +kernel
theorem test_stuck : (after (.lineStuck .both) up).line.state = .stuck ∧
    (after .lineRestored (after (.lineStuck .both) up)).line.state = .idle := by decide +kernel
theorem test_grant : reply .grantTake (night [extent 60 true] (withCat [entry 5 .closed] up)) =
    some (.ok, .grantTake none 0 50 10 0 0 (some (8, .extent 5 9 60, 0))) := by decide +kernel
theorem test_window_closes : (after .windowLimitExpiry { up with dup := { up.dup with window := some 0 } }).dup.window = none := by
  decide +kernel
theorem test_stretch_is_not_counted :
    let s := { up with line := { state := .busy .frame, rx := .stretching 2 (.share 1), sendBits := [] }, recv := full }
    after (.lineStuck .cl) s = s ∧ (after (.lineStuck .dl) s).line.state = .stuck := by decide +kernel
theorem test_reset_abandons :
    let s := after (.resetPinRelease 3) (after .resetPinAssert (after .transactionStart up))
    s.ignored = true ∧ (after .stationQuery s).link.reply = none ∧
    (after .stationQuery (after .stationQuery s)).link.reply.isSome = true := by
  decide +kernel
theorem test_samples : (after (.linkTransactionOther 8 3) up).link.reply.isSome = true ∧
    reply (.linkTransactionOther 9 7) up = some (.badRequest, .empty) := by
  decide +kernel
theorem test_boundary_share_before_own_start :
    let s := night [] { up with dup := { up.dup with window := some 1 }, out := { queue := [enter (.share 9) false], successor := none } }
    (after .noticeSendStart (after (.frameBoundary false) { s with dup := { s.dup with window := some 1 } })).out.queue =
      [{ notice := .share 0, attempts := 0, sending := true, final := false }, enter (.presence none) false] := by decide +kernel
theorem test_attn : (after .readCause (after (.lineStuck .cl) up)).causes = [] := by decide +kernel

/-! ### States that meet the hypotheses of the statements

One theorem for each statement with hypotheses; its parts meet the clauses in their order, at values where clauses meet. -/

/-- A reply pending when the transaction began, and none. -/
def replying (eighth : Bool) (s : State) : State :=
  { s with link := { s.link with
    reply := some { status := .ok, code := 3, mark := false, body := .empty }
    txn := some { out := some { status := .ok, code := 3, mark := false, body := .empty }, eighthEdge := eighth, requestAtStart := false } } }

/-- A transaction that began while a request was in progress, and whose request's reply is pending by now. -/
def overrunning (s : State) : State :=
  { s with link := { s.link with txn := some { out := none, eighthEdge := false, requestAtStart := true } } }

/-- Each count one short of what would be owed, and a stretch before a full queue. -/
theorem test_witness_settle :
    let s := withJob { job with idle := 1 } (peerTwo .present 2 (withCat [{ entry 5 .ready with timer := some 1 }] up))
    let t := { s with recv := full, line := { state := .busy .frame, rx := .stretching 2 (.share 1), sendBits := [] } }
    t.freeOwed = [] ∧ t.dueOwed = [] ∧ 4 ≤ t.recv.length ∧
    (t.settings.goneAge = 3 ∧ ∀ st : Station, st ≠ t.station → (t.peer st).state = .present → (t.peer st).framesSince < 3) ∧
    (∀ c ∈ t.cat, c.state = .asked ∨ c.state = .ready → c.timer ≠ some 0) ∧
    (t.settings.idleLimit = 2 ∧ ∀ i : Fin 8, ((t.jobSlot i).job.map Job.idle).getD 0 < 2) ∧ t.dup.window ≠ some 0 := by decide +kernel

theorem test_witness_straps : (State.powerOn true 0 false).resetLow = true ∧ up.resetLow = false := by decide +kernel

theorem test_witness_replies :
    (up.hears ∧ up.link.txn = none) ∧
    ((replying false up).link.txn.map fun x => (x.out.isSome, x.eighthEdge)) = some (true, false) ∧
    ((replying true up).link.txn.map Txn.eighthEdge = some true) ∧
    (overrunning up).link.txn = some { out := none, eighthEdge := false, requestAtStart := true } ∧
    (State.powerOn true 0 false).resetLow = true ∧ (State.powerOn true 0 false).ignored = false ∧
    (after .resetPinAssert (replying true up)).ignored = true := by unfold State.hears; decide +kernel

theorem test_witness_readback : (Request.access (.charge 16777215 65535)).wf = true ∧ Request.nop.wf = true ∧
    (Request.configure greatest).wf = true ∧ (Notice.usage 16777215 268435455).wf = true ∧ (Notice.presence none).wf = true := by
  decide +kernel

/-- No sample, 7 of them, a whole request, a short one, and what is malformed. -/
theorem test_witness_bytes : up.listens ∧ up.hears ∧ (Request.wf .stationQuery = true) ∧ parseRecord [1] = .short ∧
    parseRecord [255] = .malformed 255 ∧ parseRecord [51, 0, 0, 1, 0, 5, 0, 0, 0, 1] = .request (.access (.hold 1 5 1)) ∧
    (List.replicate 7 true).length < 8 ∧ ([true] : List Bool) ≠ [] ∧ (after .resetPinAssert (replying true up)).ignored = true ∧
    (State.powerOn true 0 false).resetLow = true := by
  unfold State.listens State.hears; decide +kernel

theorem test_witness_overrun :
    let s := overrunning up
    s.hears ∧ Request.stationQuery ≠ .nop ∧
    s.link.txn = some { out := none, eighthEdge := false, requestAtStart := true } ∧ s.link.inProgress = none ∧
    (serving (.charge 7 1) s).link.inProgress.isSome = true ∧ parseRecord [255] = .malformed 255 ∧
    parseRecord [50, 0, 5, 0] = .malformed 50 ∧ parseRecord [0] = .request .nop ∧ parseRecord [3] = .request .stationQuery ∧
    ([true] : List Bool) ≠ [] ∧ (List.replicate 7 false).length < 8 := by unfold State.hears; decide +kernel

theorem test_witness_unconfigured : State.reset.listens ∧ State.reset.link.running = false ∧ Request.snapTake ≠ .nop ∧
    Request.snapTake ≠ .stationQuery ∧ Request.snapTake ≠ .readCause := by unfold State.listens State.hears; decide +kernel

theorem test_witness_taken : up.takesRequests := by unfold State.takesRequests State.listens State.hears; decide +kernel

theorem test_witness_configure :
    State.reset.listens ∧ State.reset.link.running = false ∧
    (rangeChecks { conf with frameLength := 61 })[0]? = some false ∧ (rangeChecks { conf with dupEntries := 1025 })[15]? = some false ∧
    (∀ j : Fin 15, (rangeChecks { conf with dupEntries := 1025 })[j.val]? = some true) ∧
    (rangeChecks { greatest with userRecords := 5000 }).all (fun ok => ok) = true ∧
    98304 < 5000 * 16 + 8192 * 2 + 1024 * 2 ∧ up.link.running = true := by
  unfold State.listens State.hears; decide +kernel

theorem test_witness_acceptable : conf.acceptable ∧ least.acceptable ∧ greatest.acceptable := by
  refine ⟨?_, ?_, ?_⟩ <;> unfold Settings.acceptable <;> decide

theorem test_witness_queries : up.listens ∧ State.reset.listens ∧ up.link.running = true ∧ (2 : Station) ≠ up.station := by
  unfold State.listens State.hears; decide +kernel

/-- `n` records of one kind and of different subjects, and another one. -/
def causeList (n : Nat) (last : List CauseRec) : List CauseRec :=
  ((List.range n).map fun k =>
    { kind := .graceExpired, subject := .user k, value := none, count := 1, frame := 0, urgent := false }) ++ last

/-- A record that counts 255 of its kind. -/
def merged (kind : CauseKind) : CauseRec :=
  { kind := kind, subject := .several, value := none, count := 255, frame := 0, urgent := false }

/-- The same kind and subject; a full list with a record of SEVERAL, with one of the kind, with MIXED, with none; and 31 records. -/
theorem test_witness_raising :
    let here : Cause := { kind := .graceExpired, subject := .user 3, value := none }
    let new : Cause := { kind := .graceExpired, subject := .user 99, value := none }
    let stuck : Cause := { kind := .lineStuck, subject := .station 3, value := none }
    let same := fun (c : Cause) (x : CauseRec) => decide (x.kind = c.kind ∧ x.subject = c.subject)
    (causeList 32 []).countP (same here) = 1 ∧
    ((causeList 31 [merged .graceExpired]).countP (same new) = 0 ∧ (causeList 31 [merged .graceExpired]).length = 32 ∧
      (causeList 31 []).all (fun x => decide (x.subject ≠ .several)) = true) ∧
    ((causeList 32 []).countP (same new) = 0 ∧ (causeList 32 []).all (fun x => decide (x.subject ≠ .several)) = true) ∧
    ((causeList 31 [merged .mixed]).length = 32 ∧ (causeList 31 [merged .mixed]).all (fun x => decide (x.kind ≠ .lineStuck)) = true ∧
      (causeList 31 []).all (fun x => decide (x.kind ≠ .mixed)) = true) ∧
    ((causeList 32 []).countP (same stuck) = 0 ∧
      (causeList 32 []).all (fun x => decide (x.kind ≠ .lineStuck ∧ x.kind ≠ .mixed)) = true) ∧
    (causeList 31 []).length < 32 ∧ (raiseIn 9 new (causeList 31 [])).length = 32 ∧ (raiseIn 9 new (causeList 32 [])).length = 32 ∧
    (raiseIn 9 new (causeList 31 [merged .graceExpired])).map CauseRec.count = List.replicate 31 1 ++ [255] ∧
    ((raiseIn 9 stuck (causeList 32 [])).filter fun x => x.urgent).map CauseRec.kind = [.mixed] := by decide +kernel

theorem test_witness_read_cause :
    (after (.lineStuck .cl) { up with causes := [{ kind := .watch, subject := .user 7, value := none, count := 1, frame := 0, urgent := false }]
      }).atTaking.causes.map CauseRec.urgent = [false, true] ∧
    ({ up with causes := [{ kind := .watch, subject := .user 7, value := none, count := 1, frame := 0, urgent := false }] } : State
      ).atTaking.causes.map CauseRec.urgent = [false] ∧ up.atTaking.causes = [] := by decide +kernel

theorem test_witness_restart : up.takesRequests ∧ (∀ c ∈ up.atTaking.class1, c.ofRestart = false) ∧
    ((List.finRange 8).filter fun i => (up.atTaking.jobSlot i).job.isSome) = [] ∧
    (withJob job up).takesRequests ∧ (∀ c ∈ (withJob job up).atTaking.class1, c.ofRestart = false) ∧
    ((List.finRange 8).filter fun i => ((withJob job up).atTaking.jobSlot i).job.isSome) ≠ [] ∧
    (granting { work := .halt, retries := 0, order := 1 } up).tablesLawful := by
  unfold State.takesRequests State.listens State.hears State.tablesLawful; decide +kernel

/-- Two grants, the one of the higher slot older, of two tokens; and their entries back in the queue. -/
theorem test_witness_grants :
    let late : Grant := { work := .extent 5 9 4, retries := 1, order := 2 }
    let early : Grant := { work := .extent 5 8 3, retries := 0, order := 1 }
    let s := night [extent 10 true] (withCat [{ entry 5 .closed with inFlight := 2 }]
      { up with dup := { up.dup with
        grants := (up.dup.grants.set 0 { gen := 1, grant := some late }).set 6 { gen := 2, grant := some early } } })
    let t := { s with dup := { s.dup with queue := [{ work := .endMark 5, parity := true, retries := 0 }] } }
    t.tablesLawful ∧ (∀ i g, (i, g) ∈ [((0 : Fin 8), late), ((6 : Fin 8), early)] ↔ (t.grantSlot i).grant = some g) ∧
    [((0 : Fin 8), late), ((6 : Fin 8), early)].Pairwise (fun x y => y.2.order < x.2.order) ∧
    (t.dup.queue.any (isExtent 5 9) = false ∧ t.dup.queue.any (isExtent 5 8) = false ∧ s.dup.queue.any (isExtent 5 9) = true) ∧
    t.returnGrants.dup.queue.map DupEntry.work = [.extent 5 8 3, .extent 5 9 4, .endMark 5] ∧
    s.returnGrants.dup.queue.map DupEntry.work = [.extent 5 8 3, .extent 5 9 10] := by
  intro late early s t
  refine ⟨by unfold State.tablesLawful; decide +kernel, ?_, by decide +kernel⟩
  have h : ∀ i : Fin 8, (t.grantSlot i).grant = if i = 0 then some late else if i = 6 then some early else none := by decide +kernel
  intro i g
  rw [h i]
  split <;> rename_i h0
  · subst h0
    simp [eq_comm]
  · split <;> rename_i h6
    · subst h6
      simp [eq_comm]
    · simp [h0, h6]

theorem test_witness_retry : up.listens ∧ State.reset.listens ∧ State.reset.link.running = false ∧ up.tb.source = .reference ∧
    (after .referenceEdgeReturns (after (.referenceFallback 0 false) up)).listens ∧
    (after .referenceEdgeReturns (after (.referenceFallback 0 false) up)).tb.source = .internal ∧
    (after .referenceEdgeReturns (after (.referenceFallback 0 false) up)).tb.refPresent = true ∧
    (after (.referenceFallback 0 false) up).tb.refPresent = false := by unfold State.listens State.hears; decide +kernel

theorem test_witness_weight : (8 : Nat) ≤ 8 ∧ (0 : Nat) ≤ 8 ∧ 268435455 * 8 = 2147483640 := by decide

theorem test_witness_reevaluation :
    (estimate 4 ada ≤ ada.soft ∧ ada.state = .under) ∧ estimate 4 { ada with live := 82 } = 101 ∧ estimate 4 { ada with live := 81 } = 100 ∧
    ada.soft < estimate 4 { ada with live := 82 } ∧ ownCharge 4 { ada with live := 268435455 } = 268435455 ∧
    (ada.hard < estimate 4 ada + 132 ∧ estimate 4 ada + 131 ≤ ada.hard ∧ ada.soft < estimate 4 ada + 32 ∧ estimate 4 ada + 31 ≤ ada.soft) := by
  decide +kernel

/-- A change of Q by 10, at the report step, and by 9; a watched user and one who is not. -/
theorem test_witness_commit :
    let s := withUsers [ada] up
    s.settings.reportStep = 10 ∧ ownCharge 4 ada = 64 ∧ ownCharge 4 { ada with live := 56 } = 70 ∧ ownCharge 4 { ada with live := 55 } = 69 ∧
    ada.reported = 60 ∧ ada.user ∉ s.watch ∧ 7 ∈ ({ s with watch := [7] } : State).watch ∧
    ada.state.code ≠ (reevaluate 4 2 { ada with live := 82 }).state.code := by decide +kernel

theorem test_witness_charge_credit :
    let s := serving (.charge 7 31) (withUsers [ada] up)
    let c := serving (.credit 7 50) (withUsers [ada] up)
    (s.served (.charge 7 31) ∧ s.settle.findActive 7 = some ada ∧ admission s.settings.heldWeight 31 false ada = .ok) ∧
    (serving (.charge 7 132) (withUsers [ada] up)).served (.charge 7 132) ∧ admission s.settings.heldWeight 132 false ada = .refusedHard ∧
    (c.served (.credit 7 50) ∧ c.settle.findActive 7 = some ada ∧ 50 ≤ ada.live) ∧
    (serving (.credit 7 51) (withUsers [ada] up)).served (.credit 7 51) ∧ ada.live < 51 := by
  unfold State.served; decide +kernel

theorem test_witness_load :
    let s := serving (.userLoad 8 100 200 100) (withUsers [ada] up)
    let x := serving (.userLoad 7 1 2 3) (withUsers [ada] up)
    let r := serving (.userLoad 9 1 2 3) (withUsers [idle 9 .retiring] up)
    let f := serving (.userLoad 90 1 2 3) (withUsers ((List.range 64).map fun n => idle (n + 1) .under) up)
    (s.served (.userLoad 8 100 200 100) ∧ s.settle.findUser 8 = none ∧ s.settle.users.length < s.settings.userRecords) ∧
    (r.served (.userLoad 9 1 2 3) ∧ r.settle.findUser 9 = some (idle 9 .retiring)) ∧
    (x.served (.userLoad 7 1 2 3) ∧ x.settle.findUser 7 = some ada ∧ ada.state ≠ .retiring) ∧
    (f.served (.userLoad 90 1 2 3) ∧ f.settle.findUser 90 = none ∧ f.settings.userRecords ≤ f.settle.users.length) := by
  unfold State.served; decide +kernel

theorem test_witness_limits_freeze :
    let s := withUsers [ada, { idle 8 .frozen with live := 1 }, idle 9 .frozen] up
    s.settle.findActive 7 = some ada ∧ (serving (.userLimits 7 5 4) s).served (.userLimits 7 5 4) ∧
    (serving (.userResync 7) s).served (.userResync 7) ∧ (serving (.userFreeze 7) s).served (.userFreeze 7) ∧
    ((serving (.userThaw 9) s).served (.userThaw 9) ∧ (s.settle.findActive 9).map (fun u => decide (estimate 4 u ≤ u.soft)) = some true) ∧
    ((serving (.userThaw 8) s).served (.userThaw 8) ∧ (s.settle.findActive 8).map (fun u => decide (u.soft < estimate 4 u)) = some true) ∧
    ((serving (.userThaw 7) s).served (.userThaw 7) ∧ ada.state ≠ .frozen) := by unfold State.served; decide +kernel

/-- NOT_EMPTY; never reported; reported with no peer PRESENT, placed and not; reported with a peer PRESENT, placed and not. -/
theorem test_witness_retire :
    let bare := serving (.userRetire 9) (withUsers [idle 9 .under] up)
    let told := serving (.userRetire 9) (withUsers [{ idle 9 .under with reported := 1 }] up)
    let busy : List QNotice := (List.range 4).map fun n => { notice := .usage (n + 20) 0, attempts := 0, sending := false, final := true }
    let users := { idle 9 .under with reported := 1 } :: (List.range 4).map fun n => idle (n + 20) .retiring
    let stuck := serving (.userRetire 9) (withUsers users { up with out := { queue := busy, successor := none } })
    (let s := serving (.userRetire 7) (withUsers [ada] up);
      s.served (.userRetire 7) ∧ s.settle.findActive 7 = some ada ∧ 0 < ada.live) ∧
    (bare.served (.userRetire 9) ∧ bare.settle.findActive 9 = some (idle 9 .under) ∧
      (bare.granted.out.queue.any fun q => q.notice.isUsageOf 9) = false) ∧
    (told.served (.userRetire 9) ∧ told.granted.anyPresent = false ∧ (told.granted.placeNow 9).isSome = true) ∧
    (stuck.served (.userRetire 9) ∧ stuck.granted.anyPresent = false ∧ stuck.granted.placeNow 9 = none) ∧
    ((peerTwo .present 0 told).granted.anyPresent = true ∧
      (((peerTwo .present 0 told).granted.putState (idle 9 .under) .retiring).placeNow 9).isSome = true) ∧
    ((peerTwo .present 0 stuck).granted.anyPresent = true ∧
      ((peerTwo .present 0 stuck).granted.putState (idle 9 .under) .retiring).placeNow 9 = none) := by
  unfold State.served; decide +kernel

/-- The five cases of R35: in place, as a successor, appended, displacing the newest that qualifies, and not placed. -/
theorem test_witness_placing :
    let q := fun n => ({ notice := .usage n 5, attempts := 0, sending := false, final := false } : QNotice)
    let own := { up with out := { queue := [q 9], successor := none } }
    let sends := sending (.usage 9 5) 0 up
    let first := { q 20 with sending := true }
    let last := { q 23 with final := true }
    let with' := fun l : List QNotice => withUsers [idle 23 .retiring] { up with out := { queue := l, successor := none } }
    let four := with' [first, q 21, q 22, last]
    let held := with' [first, last, last, last]
    (own.out.queue.any (fun x => x.notice.isUsageOf 9) = true ∧
      (own.placeFinal 9).map (fun t => t.out.queue.map QNotice.notice) = some [.usage 9 0]) ∧
    (sends.out.queue.any (fun x => x.notice.isUsageOf 9) = true ∧
      (sends.placeFinal 9).map (fun t => t.out.successor) = some (some { notice := .usage 9 0, final := true })) ∧
    (up.placeFinal 9).map (fun t => t.out.queue.length) = some 1 ∧
    ((four.out.queue.filter fun x => x.notice.isUsage).length = 4 ∧ four.isRetiring 23 = true ∧
      four.out.queue = [first, q 21] ++ q 22 :: [last] ∧
      (four.placeFinal 9).map (fun t => t.dueOwed) = some [22]) ∧
    ((held.out.queue.filter fun x => x.notice.isUsage).length = 4 ∧ held.placeFinal 9 = none) := by decide +kernel

theorem test_witness_watch :
    let s := withUsers [ada] up
    let three := { s with watch := [1, 2, 3] }
    let four := { s with watch := [1, 2, 3, 4] }
    s.settle.findActive 7 = some ada ∧ (serving (.userQuery 7) s).served (.userQuery 7) ∧
    ((serving (.userWatch 7) { s with watch := [7] }).served (.userWatch 7) ∧ 7 ∈ (serving (.userWatch 7) { s with watch := [7] }).granted.watch) ∧
    ((serving (.userWatch 7) three).served (.userWatch 7) ∧ (serving (.userWatch 7) three).granted.watch.length < 4) ∧
    ((serving (.userWatch 7) four).served (.userWatch 7) ∧ 4 ≤ (serving (.userWatch 7) four).granted.watch.length) ∧
    (serving (.userUnwatch 7) s).served (.userUnwatch 7) := by unfold State.served; decide +kernel

theorem test_witness_shared_checks :
    (serving (.userQuery 0) up).served (.userQuery 0) ∧ (serving (.charge 7 0) up).served (.charge 7 0) ∧
    (serving (.credit 7 268435456) up).served (.credit 7 268435456) ∧
    (serving (.restoreBegin 7 5 1048576) up).served (.restoreBegin 7 5 1048576) ∧
    ((serving (.restoreBegin 7 5 1048575) up).served (.restoreBegin 7 5 1048575) ∧
      (serving (.restoreBegin 7 5 1048575) up).settle.findActive 7 = none) := by unfold State.served; decide +kernel

/-- Epoch 5 in each state that HOLD meets. -/
theorem test_witness_hold :
    let s := fun c : CatState => serving (.hold 7 5 50) (withUsers [ada] (withCat [entry 5 c] up))
    let big := serving (.hold 7 5 50) (withUsers [{ ada with held := 268435406 }] (withCat [entry 5 .closed] up))
    let pool := { s .closed with holds := (List.range 256).map fun n => { user := n + 100, epoch := 4, units := 1 } }
    ((s .ready).served (.hold 7 5 50) ∧ (s .ready).settle.findActive 7 = some ada ∧ ((s .ready).settle.findEpoch 5).isSome = true ∧
      50 ≤ ada.live ∧ (s .ready).settle.holds.length < (s .ready).settings.holdRecords) ∧
    (serving (.hold 7 5 1) (withUsers [ada] up)).settle.findEpoch 5 = none ∧
    ((s .asked).settle.findEpoch 5).map CatEntry.state = some .asked ∧ ((s .expiring).settle.findEpoch 5).map CatEntry.state = some .expiring ∧
    ada.live < 51 ∧ (big.served (.hold 7 5 50) ∧ 268435455 < 268435406 + 50) ∧
    (pool.served (.hold 7 5 50) ∧ pool.settle.holds.any (isHold 7 5) = false ∧ pool.settings.holdRecords ≤ pool.settle.holds.length) := by
  unfold State.served; decide +kernel

theorem test_witness_expire :
    let s := fun c : CatEntry => withCat [c] up
    let h : Hold := { user := 7, epoch := 5, units := 8 }
    let one := { withUsers [ada] (withCat [entry 5 .expiring] up) with holds := [h], sweep := .expiry 5 0 true }
    let two := { one with holds := [h, { h with user := 8 }] }
    up.takesRequests ∧ up.atTaking.findEpoch 5 = none ∧
    ((s (entry 5 .closed)).takesRequests ∧ ((s (entry 5 .closed)).atTaking.findEpoch 5) = some (entry 5 .closed)) ∧
    ((s { entry 5 .closedPartial with pins := 1 }).atTaking.findEpoch 5).map CatEntry.pins = some 1 ∧
    ((s { entry 5 .closed with inFlight := 1 }).atTaking.findEpoch 5).map CatEntry.inFlight = some 1 ∧
    ((s { entry 5 .closed with dupState := .sent }).atTaking.findEpoch 5).map CatEntry.dupState = some .sent ∧
    two.sweep ≠ .idle ∧ (s (entry 5 .closed)).holds.filter (fun h => h.epoch == 5) = [] ∧ two.holds.filter (fun h => h.epoch == 5) ≠ [] ∧
    (one.servesClass3 ∧ one.settle.findUser 7 = some ada ∧ one.holds.filter (fun h => h.epoch == 5) = [h]) ∧
    (two.servesClass3 ∧ two.holds.filter (fun h => h.epoch == 5) = [h, { h with user := 8 }]) := by
  unfold State.takesRequests State.listens State.hears State.servesClass3; decide +kernel

theorem test_witness_restore_begin :
    let a : Access := .restoreBegin 7 5 131
    let s := fun c : CatState => serving a (withUsers [ada] (withCat [entry 5 c] up))
    let jobs := { s .closed with jobs := List.replicate 8 { gen := 1, job := some job } }
    ((s .closed).served a ∧ (s .closed).settle.findActive 7 = some ada ∧ (s .closed).settle.findEpoch 5 = some (entry 5 .closed) ∧
      ((s .closed).settle.jobSlot 0).job = none ∧ admission 4 131 true ada = .okSoft) ∧
    admission 4 132 true ada = .refusedHard ∧ (∀ i : Fin 8, (jobs.settle.jobSlot i).job.isSome = true) ∧
    ((s .ready).settle.findEpoch 5).map CatEntry.state = some .ready ∧
    ((s .expiring).settle.findEpoch 5).map CatEntry.state = some .expiring ∧
    (serving a (withUsers [ada] up)).settle.findEpoch 5 = none := by unfold State.served; decide +kernel

theorem test_witness_restore_end :
    let s := fun a => serving a (withJob job (withUsers [ada] (withCat [{ entry 5 .closed with pins := 1 }] up)))
    let p : Access := .restoreProgress 8 11
    (withJob job (withUsers [ada] up)).findActive 7 = some ada ∧ (withJob job up).findActive 7 = none ∧
    ((s p).served p ∧ ((s p).settle.jobSlot 0).gen = 1 ∧ ((s p).settle.jobSlot 0).job.isSome = true ∧ (s p).granted.findActive 7 = some ada) ∧
    ((s (.restoreProgress 64 1)).served (.restoreProgress 64 1) ∧ (s (.restoreProgress 8 1048576)).served (.restoreProgress 8 1048576)) ∧
    ((s (.restoreProgress 63 1)).served (.restoreProgress 63 1) ∧ ((s (.restoreProgress 63 1)).settle.jobSlot 7).gen = 0) ∧
    ((s (.restoreEnd 8)).served (.restoreEnd 8) ∧ (s (.restoreEnd 64)).served (.restoreEnd 64) ∧ (s (.restoreEnd 0)).served (.restoreEnd 0)) := by
  unfold State.served; decide +kernel

theorem test_witness_idle :
    let due := withJob job up
    let waiting := fun j => { withJob { j with releaseWaiting := true } up with class1 := [.idleRelease 0 1] }
    ((due.jobSlot 0).job = some job ∧ job.releaseWaiting = false ∧ due.settings.idleLimit ≤ job.idle) ∧
    ((waiting job).settle.class1 = [.idleRelease 0 1] ∧ ((waiting job).settle.jobSlot 0).gen = 1 ∧ up.settings.idleLimit ≤ job.idle) ∧
    ((waiting { job with idle := 1 }).settle.class1 = [.idleRelease 0 1] ∧ 1 < up.settings.idleLimit) ∧
    (({ up with class1 := [.idleRelease 0 1] } : State).settle.class1 = [.idleRelease 0 1] ∧ (up.jobSlot 0).job = none) := by decide +kernel

theorem test_witness_restart_release :
    let s : State := { withJob { job with releaseWaiting := true } up with
      class1 := [.restartRelease 0 1]
      link := { up.link with inProgress := some { code := 2, mark := false, work := .restart 0 0 } } }
    let two := { s with class1 := [.restartRelease 0 1, .restartRelease 1 1] }
    s.settle.class1 = [.restartRelease 0 1] ∧ two.settle.class1 = [.restartRelease 0 1, .restartRelease 1 1] ∧
    s.link.inProgress = some { code := 2, mark := false, work := .restart 0 0 } := by decide +kernel

theorem test_witness_snap_take :
    up.takesRequests ∧ (withCat [entry 5 .ready] up).takesRequests ∧ (∃ c ∈ (withCat [entry 5 .ready] up).atTaking.cat, c.state = .ready) ∧
    (let s := withCat ((List.range 64).map fun n => entry (BitVec.ofNat 16 (64 - n)) .closed) up;
      s.takesRequests ∧ 64 ≤ s.atTaking.cat.length ∧ (s.atTaking.cat.all fun c => decide (c.state = .closed)) = true) ∧
    (let s := { withCat [entry 0 .closed] up with latest := some 32767 };
      s.takesRequests ∧ ¬ ((32768 : Epoch) - 0).toNat ≤ 32767 ∧ ((32767 : Epoch) - 0).toNat ≤ 32767) := by
  unfold State.takesRequests State.listens State.hears; decide +kernel

theorem test_witness_snap_ready :
    up.takesRequests ∧ up.atTaking.findEpoch 5 = none ∧ (withCat [entry 5 .closed] up).atTaking.findEpoch 5 = some (entry 5 .closed) ∧
    (withCat [entry 5 .asked] up).atTaking.findEpoch 5 = some (entry 5 .asked) ∧ (entry 5 .asked).early = some 0#16 ∧
    (withCat [entry 5 .asked] up).takesRequests := by unfold State.takesRequests State.listens State.hears; decide +kernel

theorem test_witness_epoch_notices :
    let s := fun n => received n (withCat [entry 5 .asked] up)
    let far := received (.epochPropose 32768) { withCat [entry 0 .closed] up with latest := some 1 }
    let many := received (.epochReady 65) (withCat ((List.range 64).map fun n => entry (BitVec.ofNat 16 (64 - n)) .closed) up)
    ((s (.epochPropose 6)).receives 2 (.epochPropose 6) [] ∧ newerThanLatest 6 ((s (.epochPropose 6)).withRecv []).latest = true ∧
      (((s (.epochPropose 6)).withRecv []).abandonAsked true).cat.length < 64) ∧
    (far.receives 2 (.epochPropose 32768) [] ∧ newerThanLatest 32768 (far.withRecv []).latest = true ∧ ¬ ((32768 : Epoch) - 0).toNat ≤ 32767) ∧
    ((s (.epochPropose 5)).receives 2 (.epochPropose 5) [] ∧ (((s (.epochPropose 5)).withRecv []).findEpoch 5).isSome = true) ∧
    ((s (.epochPropose 4)).receives 2 (.epochPropose 4) [] ∧ newer 4 5 = false ∧
      ((s (.epochPropose 4)).withRecv []).out.has (fun n => decide (n = .epochLatest 5)) = false) ∧
    ((s (.epochReady 5)).receives 2 (.epochReady 5) [] ∧ ((s (.epochReady 5)).withRecv []).findEpoch 5 = some (entry 5 .asked)) ∧
    ((s (.epochReady 4)).receives 2 (.epochReady 4) [] ∧ ((s (.epochReady 4)).withRecv []).findEpoch 4 = none) ∧
    (many.receives 2 (.epochReady 65) [] ∧ newerThanLatest 65 (many.withRecv []).latest = true ∧
      64 ≤ ((many.withRecv []).abandonAsked true).cat.length) ∧
    (s (.epochLatest 9)).receives 2 (.epochLatest 9) [] ∧ (s (.presence (some 9))).receives 2 (.presence (some 9)) [] ∧
    (s (.presence none)).receives 2 (.presence none) [] := by unfold State.receives; decide +kernel

theorem test_witness_entries :
    let ready := withCat [{ entry 5 .ready with timer := some 0 }] up
    let asked := withCat [{ entry 5 .asked with timer := some 0 }] up
    ((ready.findEpoch 5).map CatEntry.required = some (some 3#16) ∧ (ready.findEpoch 5).map CatEntry.ready = some (some 1#16) ∧
      inSet 1 3#16 = true ∧ inSet 1 1#16 = false) ∧ (∀ st : Station, inSet st 3#16 = true → inSet st 3#16 = true) ∧
    (asked.cat.find? (fun c => decide (c.state = .asked))).map CatEntry.timer = some (some 0) ∧
    (ready.cat.find? fun c => decide (c.state = .asked)) = none ∧ (entry 5 .asked).proposer = up.station ∧
    ({ entry 5 .asked with proposer := 2 } : CatEntry).proposer ≠ up.station ∧
    ready.findEpoch 5 = some { entry 5 .ready with timer := some 0 } := by decide +kernel

theorem test_witness_drop :
    let s := withUsers [{ ada with remote := [{ station := 2, units := 5 }] }] (peerTwo .gone 9 up)
    let swept := { s with sweep := .drop 2 none 0 true }
    s.takesRequests ∧ (2 : Station) ≠ s.station ∧ (s.atTaking.peer 2).state = .gone ∧ s.sweep = .idle ∧ s.atTaking.users ≠ [] ∧
    (up.atTaking.peer 2).state ≠ .gone ∧ (withUsers [] s).atTaking.users = [] ∧ swept.sweep ≠ .idle ∧
    (swept.servesClass3 ∧ (swept.settle.users.find? fun r => above none r.user) =
      some { ada with remote := [{ station := 2, units := 5 }] }) := by
  unfold State.takesRequests State.listens State.hears State.servesClass3; decide +kernel

theorem test_witness_reports :
    let four : List RemoteEntry := [⟨1, 9⟩, ⟨2, 7⟩, ⟨4, 7⟩, ⟨5, 8⟩]
    (∃ r ∈ ada.remote, r.station = 1) ∧ (∀ r ∈ ada.remote, r.station ≠ 2) ∧ ada.remote.length < 4 ∧ four.length = 4 ∧
    (four.map RemoteEntry.station).Nodup ∧ four = [⟨1, 9⟩, ⟨2, 7⟩] ++ ⟨4, 7⟩ :: [⟨5, 8⟩] ∧ (∀ r ∈ four, r.station ≠ 0) ∧
    (∀ r ∈ ([⟨1, 9⟩, ⟨2, 7⟩] ++ [⟨5, 8⟩] : List RemoteEntry), 7 < r.units ∨ 7 = r.units ∧ r.station < 4) := by decide +kernel

theorem test_witness_usage_share :
    let s := fun n => received n (withUsers [ada, idle 9 .retiring] up)
    ((s (.usage 7 0)).receives 2 (.usage 7 0) [] ∧ (s (.usage 7 0)).settle.class1 = [] ∧ (s (.usage 7 0)).settle.findActive 7 = some ada) ∧
    ((s (.usage 9 3)).receives 2 (.usage 9 3) [] ∧ (s (.usage 9 3)).settle.findActive 9 = none) ∧
    (s (.share 16777215)).receives 2 (.share 16777215) [] := by unfold State.receives; decide +kernel

theorem test_witness_digest :
    let due := withUsers [{ ada with reportDue := true }] up
    let held := { up with digest := { up.digest with held := true } }
    up.takesRequests ∧ held.atTaking.digest.held = true ∧ up.atTaking.digest.held = false ∧
    (let s := { up with digest := { up.digest with gapTimer := 2 } };
      s.link.running = true ∧ s.digest.gapTimer < s.settings.digestGap) ∧
    (due.settle.freeForClass5 = true ∧ due.settle.digest.quiet < due.settle.users.length ∧ due.settle.digest.batch < due.settings.digestBatch ∧
      due.settings.digestGap ≤ due.settle.digest.gapTimer ∧ due.settle.out.queue.length < 8 ∧
      (due.settle.users.find? fun r => above due.settle.digest.cursor r.user) = some { ada with reportDue := true }) ∧
    (let s := withUsers [ada] { up with digest := { up.digest with cursor := some 7 } };
      s.settle.freeForClass5 = true ∧ (s.settle.users.find? fun r => above s.settle.digest.cursor r.user) = none ∧
      s.settle.users.head? = some ada ∧ ada.reportDue = false ∧ s.settle.digest.round = 0) := by
  unfold State.takesRequests State.listens State.hears; decide +kernel

theorem test_witness_grace :
    let s := fun st => withUsers [idle 7 st] { up with scan := { running := true, cursor := none, owed := 0 } }
    (∀ st ∈ [UserState.grace 1, .grace 0, .frozen], (s st).settle.freeForClass4 = true ∧ (s st).scan.running = true ∧
      ((s st).settle.users.find? fun r => above none r.user) = some (idle 7 st)) := by decide +kernel

/-- A waiting visit that finds no record above the cursor: with nothing owed, over an empty table, and over one that is not empty. -/
theorem test_witness_grace_scan_ends :
    let s := fun users owed => withUsers users { up with scan := { running := true, cursor := some 7, owed := owed } }
    ∀ users ∈ [[], [ada]], ∀ owed ∈ [0, 2], (s users owed).settle.freeForClass4 = true ∧ (s users owed).scan.running = true ∧
      ((s users owed).settle.users.find? fun r => above (some 7) r.user) = none := by decide +kernel

theorem test_scan_over_an_empty_table :
    (after .graceScanVisit { up with scan := { running := true, cursor := some 7, owed := 2 } }).scan =
      { running := false, cursor := none, owed := 0 } := by decide +kernel

/-- A final notice of a RETIRING record, of a record that is none, and another USAGE. -/
theorem test_witness_departures :
    let s := withUsers [ada, idle 9 .retiring] up
    let f : QNotice := { notice := .usage 9 0, attempts := 0, sending := false, final := true }
    let late : QNotice := { f with notice := .usage 7 0 }
    let usage : QNotice := { late with final := false }
    (f.final = true ∧ s.isRetiring 9 = true ∧ (s.depart f .delivered).freeOwed = [9] ∧ (s.depart f .displaced).finalWaiting = [9]) ∧
    (s.isRetiring 7 = false ∧ (s.depart late .dropped).dueOwed = [] ∧ (s.depart usage .dropped).dueOwed = [7] ∧
      (s.depart late .displaced).dueOwed = [7]) ∧ (Notice.share 1).isUsage = false ∧ s.depart (enter (.share 1) false) .dropped = s := by
  decide +kernel

theorem test_witness_notice_ends :
    let s := withUsers [ada, idle 9 .retiring] { up with freeOwed := [9, 7], dueOwed := [7, 9] }
    9 ∈ s.freeOwed ∧ s.isRetiring 9 = true ∧ 7 ∈ s.freeOwed ∧ s.isRetiring 7 = false ∧ 7 ∈ s.dueOwed ∧ (s.findActive 7).isSome = true ∧
    9 ∈ s.dueOwed ∧ s.findActive 9 = none := by decide +kernel

theorem test_witness_gone_age :
    let s := peerTwo .present 3 (withCat [entry 5 .ready] up)
    (2 : Station) ≠ s.station ∧ (s.peer 2).state = .present ∧ s.settings.goneAge ≤ (s.peer 2).framesSince := by decide +kernel

theorem test_witness_dup_queue :
    let s := fun d : DupState => withCat [{ entry 5 .closed with dupState := d }] up
    let same := { s .queued with dup := { up.dup with queue := [extent 3 true] } }
    let none := { s .queued with dup := { up.dup with queue := List.replicate 64 { work := .halt, parity := true, retries := 0 } } }
    up.takesRequests ∧ up.atTaking.findEpoch 5 = .none ∧ (withCat [entry 5 .ready] up).atTaking.findEpoch 5 = some (entry 5 .ready) ∧
    (∀ d ∈ [DupState.notQueued, .queued, .ending, .sent, .incomplete, .discarded],
      ((s d).atTaking.findEpoch 5).map CatEntry.dupState = some d) ∧
    (same.takesRequests ∧ same.atTaking.dup.queue.any (isExtent 5 9) = true) ∧
    (none.takesRequests ∧ none.atTaking.freeDups = 0) ∧ (s .notQueued).atTaking.freeDups ≠ 0 := by
  unfold State.takesRequests State.listens State.hears; decide +kernel

theorem test_witness_window :
    let s := night [extent 10 true, extent 20 false] up
    up.takesRequests ∧ up.atTaking.dup.window = none ∧ s.takesRequests ∧ s.atTaking.dup.window.isSome = true ∧
    ({ up with dup := { up.dup with window := some 0 } } : State).dup.window = some 0 := by
  unfold State.takesRequests State.listens State.hears; decide +kernel

/-- Closed; no free slot; nothing of tonight; a HALT; an END with and without grants in flight; EXTENTs within, over and beyond the budget. -/
theorem test_witness_grant_take :
    let s := fun q => night q (withCat [entry 5 .closed] up)
    let fullTable := { s [] with dup := { (s []).dup with
      grants := List.replicate 8 { gen := 1, grant := some { work := .halt, retries := 0, order := 1 } } } }
    let stop : DupEntry := { work := .halt, parity := true, retries := 0 }
    let mark : DupEntry := { work := .endMark 5, parity := true, retries := 0 }
    up.takesRequests ∧ up.atTaking.dup.window = none ∧
    (fullTable.takesRequests ∧ ∀ i : Fin 8, (fullTable.atTaking.grantSlot i).grant.isSome = true) ∧
    ((s []).atTaking.dup.window.isSome = true ∧ ((s []).atTaking.grantSlot 0).grant = none ∧ (s []).atTaking.dup.tonight = []) ∧
    (∀ q ∈ [stop, mark, extent 50 true, extent 51 true], (s [q]).takesRequests ∧ (s [q]).atTaking.dup.tonight ≠ [] ∧
      (s [q]).atTaking.dup.queue = [q]) ∧ (((s [mark]).atTaking.findEpoch 5).map CatEntry.inFlight).getD 0 = 0 ∧
    (((night [mark] (withCat [{ entry 5 .closed with inFlight := 1 }] up)).atTaking.findEpoch 5).map CatEntry.inFlight).getD 0 = 1 ∧
    (s []).atTaking.dup.remaining = 50 ∧ (s []).atTaking.dup.frameBudget = 50 ∧ (s []).atTaking.dup.debt = 0 ∧
    (let t := { s [extent 51 true] with dup := { (s [extent 51 true]).dup with debt := 1 } };
      t.takesRequests ∧ t.atTaking.dup.remaining < 51 ∧ t.atTaking.dup.debt ≠ 0) := by
  unfold State.takesRequests State.listens State.hears; decide +kernel

theorem test_witness_grant_done :
    let s := fun g => granting g (withCat [{ entry 5 .closed with inFlight := 1 }] up)
    (∀ g ∈ [({ work := .extent 5 9 4, retries := 1, order := 1 } : Grant), { work := .extent 5 9 4, retries := 2, order := 1 }
        , { work := .endMark 5, retries := 0, order := 1 }, { work := .endMark 5, retries := 2, order := 1 }],
      (s g).takesRequests ∧ ((s g).atTaking.grantSlot 0).gen = 1 ∧ ((s g).atTaking.grantSlot 0).grant = some g) ∧
    (up.takesRequests ∧ (up.atTaking.grantSlot 7).grant = none) ∧
    (night [extent 3 true] up).dup.queue.any (isExtent 5 9) = true ∧ up.dup.queue.any (isExtent 5 9) = false := by
  unfold State.takesRequests State.listens State.hears; decide +kernel

/-- Appended between its like and the next kind; replaced in place and as a successor; each kind of notice displaced; and withdrawn. -/
theorem test_witness_offers :
    let filled := fun l : List QNotice => { up with out := { queue := l, successor := none } }
    let more := (List.range 4).map fun n => enter (.epochReady (BitVec.ofNat 16 (n + 1))) false
    let first := enter (.epochReady 0) false
    let ready := first :: more
    let usages := (List.range 4).map fun n => enter (.usage (n + 1) 0) false
    let share := enter (.share 1) false
    let presence := enter (.presence none) false
    let kinds := fun s : State => (s.offerEpoch (.epochReady 99)).out.queue.map fun q => q.notice.priority
    (insertNotice share [first, presence] = [first, share, presence] ∧ (Notice.share 1).priority < (Notice.presence none).priority) ∧
    ((filled usages).offerUsage 9 5).out.queue.length = 4 ∧ ((filled usages).offerUsage 4 5).out.queue.map QNotice.notice =
      [.usage 1 0, .usage 2 0, .usage 3 0, .usage 4 5] ∧
    ((sending (.share 1) 2 up).offerShare 7).out.successor = some { notice := .share 7, final := false } ∧
    kinds (filled (ready ++ [share] ++ usages.take 2)) = [0, 0, 0, 0, 0, 0, 1, 2] ∧
    kinds (filled (ready ++ ready.take 1 ++ [share, presence])) = [0, 0, 0, 0, 0, 0, 0, 1] ∧
    kinds (filled (ready ++ ready.take 2 ++ [share])) = [0, 0, 0, 0, 0, 0, 0, 0] ∧
    ((filled ({ first with sending := true } :: more ++ ready.take 3)).offerEpoch (.epochReady 99)).out.queue.length = 8 ∧
    ((filled ready).offerEpoch (.epochReady 4)).out.queue = ready ∧ ((filled ready).offerEpoch (.epochReady 5)).out.queue.length = 6 ∧
    ((filled ready).withdraw fun n => decide (n = .epochReady 2)).out.queue.length = 4 ∧
    (sending (.epochReady 2) 0 up).withdraw (fun n => decide (n = .epochReady 2)) = sending (.epochReady 2) 0 up := by decide +kernel

theorem test_witness_send :
    ({ up with out := { queue := [enter (.share 1) false], successor := none } } : State).line.state = .idle ∧
    up.out.queue = [] ∧ State.reset.line.state ≠ .idle := by decide +kernel

/-- Attempt counts 1 and 2, with and without a PRESENT peer, with and without a successor. -/
theorem test_witness_send_end :
    let s := sending (.share 1)
    (∀ k ∈ [1, 2], (s k up).settle.line.state = .sending ∧
      (s k up).settle.out.queue = [] ++ { notice := .share 1, attempts := k, sending := true, final := false } :: [] ∧
      (s k up).settle.out.successor = none) ∧ (∀ p ∈ (s 1 up).settle.peers, p.state ≠ .present) ∧
    (s 1 (peerTwo .present 0 up)).settle.line.state = .sending ∧ (∃ p ∈ (s 1 (peerTwo .present 0 up)).settle.peers, p.state = .present) ∧
    (let t := { s 1 up with out := { (s 1 up).out with successor := some { notice := .share 2, final := false } } };
      t.settle.line.state = .sending ∧ t.settle.out.successor = some { notice := .share 2, final := false }) := by decide +kernel

/-- The bits of SHARE(1) of station 3: 01 1000 0011, then the payload, whose last bit is bit 33. -/
theorem test_witness_attempts :
    let s := sending (.share 1) 1 up
    s.line.state = .sending ∧ s.out.queue = [] ++ { notice := .share 1, attempts := 1, sending := true, final := false } :: [] ∧
    s.line.sendBits[1]? = some true ∧ s.line.sendBits[9]? = some true ∧ s.line.sendBits[33]? = some true ∧
    s.line.sendBits.take 10 = [false, true, true, false, false, false, false, false, true, true] := by decide +kernel

/-- A notice of this and of another station, a full queue, a failed check, a set top bit, a foreign priority, an unknown kind, and a header
of which this station has sampled a part. -/
theorem test_witness_verdict :
    let f := frameOf 2 (.epochReady 5)
    let wide := frameOf 2 (.usage 7 268435456)
    let s := { up with line := { state := .busy .frame, rx := .receiving [], sendBits := [] } }
    (s.line.rx = .receiving [] ∧ [] <+: sampledHeader f ∧ sampledHeader f = [false, false, false, true, false, false, false, false, true, false] ∧
      [false, false] <+: sampledHeader f) ∧
    (readNotice 15 [] = none ∧ readNotice f.kind f.payload = some (.epochReady 5) ∧ checkPasses f = true ∧
      noticeWellFormed f (.epochReady 5) = true ∧ f.station ≠ s.station ∧ s.recv.length < 4) ∧
    (checkPasses { f with check := f.check ^^^ 1 } = false ∧ (frameOf 3 (.epochReady 5)).station = s.station) ∧
    (checkPasses wide = true ∧ noticeWellFormed wide (.usage 7 268435456) = false) ∧
    (4 ≤ ({ s with recv := full } : State).recv.length ∧ full.length = 4) ∧
    (let t := { up with line := { state := .busy .frame, rx := .stretching 2 (.epochReady 5), sendBits := [] } };
      t.line.rx = .stretching 2 (.epochReady 5) ∧ t.recv.length < 4 ∧ 4 ≤ ({ t with recv := full } : State).recv.length) := by
  decide +kernel

theorem test_witness_heard :
    let r : RxNotice := { sender := 2, notice := .share 1, available := false }
    let s := fun p => peerTwo p 9 { up with recv := [r], line := { state := .busy .frame, rx := .judged (some .slotA), sendBits := [] } }
    (∀ p ∈ [PeerState.absent, .present, .gone],
      ((s p).settle.recv.find? fun x => !x.available) = some r ∧ r.sender ≠ (s p).settle.station) ∧
    ((s .absent).settle.peer 2).state = .absent ∧ ((s .gone).settle.peer 2).state = .gone ∧
    ((peerTwo .present 0 (s .present)).settle.peer 2).state = .present ∧
    (let t := withUsers [ada] { s .gone with sweep := .drop 2 none 0 true };
      t.settle.sweep = .drop 2 none 0 true ∧ t.settle.nextUser none = some ada ∧ (withUsers [] t).settle.nextUser none = none) := by
  decide +kernel

theorem test_witness_frames :
    let s := fun rx => { up with line := { state := .busy .frame, rx := rx, sendBits := [] } }
    up.line.state = .idle ∧ (s .noFrame).line.state = .busy .frame ∧ (s (.receiving [])).line.rx = .receiving [] ∧
    (s (.judged none)).line.rx = .judged none ∧ (up.setLine (.busy .gap) .noFrame).line.state = .busy .gap := by decide +kernel

theorem test_witness_lines :
    (∀ why ∈ [BusyWhy.attachment, .frame, .gap, .stray], (up.setLine (.busy why) .noFrame).line.state = .busy why ∧
      (up.setLine (.busy why) .noFrame).line.rx = .noFrame) ∧
    (up.setLine (.busy .frame) (.judged none)).line.rx = .judged none ∧ (∀ r ∈ up.recv, r.available = true) ∧
    (up.setLine .stuck .noFrame).line.state = .stuck ∧ State.reset.line.state = .detached ∧
    (up.setLine (.busy .frame) (.stretching 2 (.share 1))).settle.line.rx = .judged (some .slotA) ∧
    ({ up.setLine (.busy .frame) (.stretching 2 (.share 1)) with recv := full } : State).settle.line.rx = .stretching 2 (.share 1) := by
  decide +kernel

theorem test_witness_boundary :
    let s := fun w : Option Nat => { up with dup := { up.dup with window := w } }
    up.tb.source ≠ .unclocked ∧ up.settle.peers.length = 16 ∧ up.settle.dup.window = none ∧ (s (some 2)).settle.dup.window = some 2 ∧
    (s (some 1)).settle.dup.window = some 1 ∧ (s (some 2)).tb.source ≠ .unclocked ∧
    (after (.frameBoundary true) (s (some 1))).causes.map CauseRec.kind = [.windowClosed] ∧
    (let t := { s (some 1) with tb := { up.tb with source := .internal, refPresent := false, switchBack := true } };
      t.tb.switchBack = true ∧ t.tb.refPresent = false ∧
      (after (.frameBoundary true) t).causes.map CauseRec.kind = [.timebaseFallback, .windowClosed]) := by decide +kernel

theorem test_witness_fallback :
    up.tb.source = .reference ∧ up.tb.timer ≤ 0 ∧ 99999999 < up.settings.frameLength * 10000000 ∧
    99999499 + 500 < up.settings.frameLength * 10000000 ∧ up.settings.frameLength * 10000000 ≤ 99999500 + 500 ∧
    State.reset.tb.source = .unclocked ∧ State.reset.tb.source ≠ .reference := by decide +kernel

/-- The invariants hold in states that are not empty, and a step from one of them answers. -/
theorem test_witness_invariants :
    let s := withUsers [ada] { up with pending := [.lineStuck .cl, .readCause] }
    s.causesLawful ∧ s.usersLawful ∧ s.queuesLawful ∧ s.tablesLawful ∧ s.sizesLawful ∧ s.steps := by
  refine ⟨⟨by decide +kernel, by decide +kernel, by decide +kernel⟩, ⟨by decide +kernel, ?_, by decide +kernel⟩
    , by unfold State.queuesLawful; decide +kernel, by unfold State.tablesLawful; decide +kernel
    , by unfold State.sizesLawful; decide +kernel, ⟨_, rfl⟩⟩
  intro u hu
  rcases List.mem_singleton.1 hu with rfl
  refine ⟨by decide +kernel, ?_, by decide +kernel⟩
  show estimate 4 ada ≤ 100
  decide +kernel

/-- A station that sends a USAGE which has a successor, with a SHARE and a PRESENCE waiting. -/
theorem test_witness_notices :
    let s := { sending (.usage 7 5) 1 { up with pending := [.attemptAbandoned true] } with
      out := { queue := [enter (.share 4) false, { enter (.usage 7 5) false with sending := true }, enter (.presence none) false]
               successor := some { notice := .usage 7 6, final := false } } }
    s.noticesLawful ∧ s.steps := by
  refine ⟨⟨⟨by decide +kernel, by decide +kernel, by decide +kernel, by decide +kernel⟩, ⟨by decide +kernel, ?_⟩
    , ⟨fun _ => rfl, by decide +kernel, by decide +kernel⟩⟩, ⟨_, rfl⟩⟩
  intro x hx
  have hx' : some ({ notice := .usage 7 6, final := false } : Successor) = some x := hx
  cases hx'
  exact ⟨_, List.mem_cons_of_mem _ (List.mem_cons_self ..), rfl, rfl⟩

/-- User 7 with 8 AU held in epoch 5 and 10 AU reserved by a job of epoch 5. -/
theorem test_witness_ledgers :
    let s := withJob job (withUsers [ada] (withCat [{ entry 5 .closed with heldTotal := 8, holdCount := 1, pins := 1 }]
      { up with holds := [{ user := 7, epoch := 5, units := 8 }], pending := [.restoreEnd 8] }))
    s.ledgersLawful ∧ s.steps := by
  intro s
  have jobs : s.activeJobs = [job] := by decide +kernel
  refine ⟨⟨by decide +kernel, ⟨by decide +kernel, by decide +kernel, by decide +kernel, ?_⟩
    , ⟨by decide +kernel, by decide +kernel, by decide +kernel, by decide +kernel⟩
    , ⟨by decide +kernel, ?_, ?_, ?_⟩, fun e n w h => by cases h⟩, ⟨_, rfl⟩⟩
  · rintro c hc
    rcases List.mem_singleton.1 hc with rfl
    exact ⟨5, rfl, by decide +kernel, by decide +kernel⟩
  all_goals rw [jobs]; decide +kernel

end Sys2Proof.Tests
end

section
/-! PROOFS. The estimate, re-evaluation, admission and the end of an access (R5 to R7, R10, R15, R21, R42). -/

namespace Sys2Proof.Machine

/-! ### The weighted held space (R5) -/

/-- Hw is the ceiling of H × w / 8 (R5). -/
theorem weightedHeld_bounds (w held : Nat) :
    8 * weightedHeld w held < held * w + 8 ∧ held * w ≤ 8 * weightedHeld w held := by
  unfold weightedHeld
  omega

/-- A weight of at most 8 eighths never makes the held space greater (R5). -/
theorem weightedHeld_le {w : Nat} (hw : w ≤ 8) (held : Nat) : weightedHeld w held ≤ held := by
  have hmul : held * w ≤ held * 8 := Nat.mul_le_mul_left held hw
  have := weightedHeld_bounds w held
  omega

/-- Held space under a nonzero weight is charged (R5). -/
theorem weightedHeld_pos {w held : Nat} (hw : 0 < w) (hh : 0 < held) : 1 ≤ weightedHeld w held := by
  have hmul : 0 < held * w := Nat.mul_pos hh hw
  have := weightedHeld_bounds w held
  omega

/-- Settles O16: the ceiling from its two bounds, and the rest from the ceiling. -/
theorem weightedHeldIsTheCeiling : Obligations.WeightedHeldIsTheCeiling := by
  intro w held hw
  have hmul : held * w ≤ held * 8 := Nat.mul_le_mul_left held hw
  refine ⟨weightedHeld_bounds w held, ?_, ?_, weightedHeld_le hw held, weightedHeld_pos, ?_, rfl, rfl, rfl⟩
  · simp [weightedHeld]
  · unfold weightedHeld
    omega
  · omega

/-! ### Re-evaluation (R10) and admission (R7) -/

/-- A record under its soft limit becomes UNDER unless FROZEN or RETIRING (R10). -/
theorem reevaluate_below {w g : Nat} {u : UserRec} (he : estimate w u ≤ u.soft) (hf : u.state ≠ .frozen) (hr : u.state ≠ .retiring) :
    reevaluate w g u = { u with state := .under } := by
  obtain ⟨user, state, _⟩ := u
  unfold reevaluate
  cases state with
  | under => simp only [he, if_true]
  | grace n => simp only [he, if_true]
  | lapsed => simp only [he, if_true]
  | frozen => exact absurd rfl hf
  | retiring => exact absurd rfl hr

/-- A record above its soft limit begins GRACE when it was UNDER, and else keeps its state (R10). -/
theorem reevaluate_above {w g : Nat} {u : UserRec} (he : u.soft < estimate w u) :
    reevaluate w g u = if u.state = .under then { u with state := .grace g } else u := by
  have hn : ¬ estimate w u ≤ u.soft := Nat.not_le.2 he
  unfold reevaluate
  cases hs : u.state <;> simp [hn]

/-- FROZEN and RETIRING are exempt from re-evaluation (R10). -/
theorem reevaluate_exempt {w g : Nat} {u : UserRec} (h : u.state = .frozen ∨ u.state = .retiring) : reevaluate w g u = u := by
  unfold reevaluate
  rcases h with h | h <;> rw [h]

/-- The three saturating sums (R6). -/
theorem estimate_sums (w : Nat) (u : UserRec) :
    ownCharge w u = min 268435455 (u.live + u.reserved + weightedHeld w u.held) ∧
    remoteSum u = min 268435455 ((u.remote.map RemoteEntry.units).sum + u.spill) ∧
    estimate w u = min 268435455 (ownCharge w u + remoteSum u) :=
  ⟨rfl, by rw [← remoteUnits_eq]; rfl, rfl⟩

/-- E′ beyond the hard limit is refused in every state that is tested (R7). -/
theorem admission_hard {w n : Nat} {restore : Bool} {u : UserRec} (hr : u.state ≠ .retiring) (hf : u.state ≠ .frozen)
    (h : u.hard < tested w n u) : admission w n restore u = .refusedHard := by
  unfold admission
  cases hs : u.state with
  | under => simp only [h, if_true]
  | grace k => simp only [h, if_true]
  | lapsed => simp only [h, if_true]
  | frozen => exact absurd hs hf
  | retiring => exact absurd hs hr

/-- E′ between the limits (R7). -/
theorem admission_between {w n : Nat} {restore : Bool} {u : UserRec} (hs : u.soft < tested w n u) (hh : tested w n u ≤ u.hard) :
    (u.state = .under ∨ (∃ k, u.state = .grace k) → admission w n restore u = .okSoft) ∧
    (u.state = .lapsed → admission w n restore u = if restore then .okSoft else .refusedLapsed) := by
  have hn : ¬ u.hard < tested w n u := Nat.not_lt.2 hh
  unfold admission
  refine ⟨?_, fun h => by simp only [h, hn, hs, if_true, if_false]⟩
  rintro (h | ⟨k, h⟩) <;> simp only [h, hn, hs, if_true, if_false]

/-- E′ within the soft limit (R7). -/
theorem admission_below {w n : Nat} {restore : Bool} {u : UserRec} (h : u.state = .under) (hs : tested w n u ≤ u.soft)
    (hh : tested w n u ≤ u.hard) : admission w n restore u = .ok := by
  simp only [admission, h, Nat.not_lt.2 hs, Nat.not_lt.2 hh, if_false]

/-- Settles O17, by the sums, the side of the soft limit, and the place of E′ between the limits. -/
theorem estimateReevaluationAndAdmission : Obligations.EstimateReevaluationAndAdmission := by
  refine ⟨fun w u => ?_, fun w g u => ?_, fun w n restore u => ?_⟩
  · obtain ⟨hq, hr, he⟩ := estimate_sums w u
    exact ⟨hq, hr, he, fun h => by omega⟩
  · refine ⟨fun h he => ?_, fun h he => ?_, fun n h he => ?_, fun n h he => ?_, fun h he => ?_, fun h he => ?_,
      fun h => reevaluate_exempt (.inl h), fun h => reevaluate_exempt (.inr h)⟩
    · rw [reevaluate_below he (by simp [h]) (by simp [h]), ← h]
    · rw [reevaluate_above he, if_pos h]
    · exact reevaluate_below he (by simp [h]) (by simp [h])
    · rw [reevaluate_above he, if_neg (by simp [h])]
    · exact reevaluate_below he (by simp [h]) (by simp [h])
    · rw [reevaluate_above he, if_neg (by simp [h])]
  · refine ⟨fun h => ?_, fun h => ?_, admission_hard, fun h hs hh => ?_, fun h hs hh => ?_, admission_below⟩
    · simp only [admission, h]
    · simp only [admission, h]
    · exact (admission_between hs hh).1 h
    · exact (admission_between hs hh).2 h

/-! ### The end of an access (R15) -/

/-- The condition of the report-due check (R42). -/
theorem reportMoved_iff {w step : Nat} {u : UserRec} :
    reportMoved w step u = true ↔
      u.reported + step ≤ ownCharge w u ∨ ownCharge w u + step ≤ u.reported ∨ ownCharge w u = 0 ∧ 0 < u.reported := by
  simp [reportMoved, or_assoc]

/-- The record left by an access bears the user number of the changed one. -/
@[simp] theorem settledRecord_user (c : Settings) (old changed : UserRec) : (settledRecord c old changed).user = changed.user := by
  unfold settledRecord
  split <;> simp

/-- After an access the user's record is the one it left, and every other is the old one (R15). -/
theorem commit_findUser (s : State) (old changed : UserRec) (n : Nat) :
    (s.commit old changed).findUser n =
      if n = changed.user then (s.findUser n).map (fun _ => settledRecord s.settings old changed) else s.findUser n := by
  unfold State.findUser State.commit
  rw [find_putUser, settledRecord_user]
  by_cases hn : n = changed.user
  · subst hn
    cases s.users.find? (fun r => r.user == changed.user) <;> simp
  · simp [hn, Ne.symm hn]

/-- A watched user's changed state raises WATCH (R21). -/
theorem watchCause_changed {f : FrameNo} {w : List Nat} {n : Nat} {x y : UserState} {l : List CauseRec} (hc : x.code ≠ y.code)
    (hn : n ∈ w) : watchCause f w n x y l = raiseIn f { kind := .watch, subject := .user n, value := some (.userState y) } l :=
  if_pos ⟨hc, hn⟩

/-- An unchanged state, or one of a user not watched, raises nothing (R21). -/
theorem watchCause_none {f : FrameNo} {w : List Nat} {n : Nat} {x y : UserState} {l : List CauseRec} (h : n ∉ w ∨ x.code = y.code) :
    watchCause f w n x y l = l := by
  refine if_neg fun ⟨hc, hn⟩ => ?_
  rcases h with h | h
  · exact h hn
  · exact hc h

/-- Settles O18, by whether the report-due check finds a report owed, and by the WATCH cause. -/
theorem accessesEndWithReevaluationWatchAndReportCheck : Obligations.AccessesEndWithReevaluationWatchAndReportCheck := by
  intro s old changed _
  simp only [← reportMoved_iff (u := changed)]
  refine ⟨fun owed => ⟨?_, if_pos owed⟩, fun owed => ⟨?_, if_neg owed⟩, fun n hn => ?_, putUser_users _ _,
    fun hw hc => watchCause_changed hc hw, watchCause_none, rfl⟩
  · rw [commit_findUser, if_pos rfl, settledRecord, if_pos owed]
  · rw [commit_findUser, if_pos rfl, settledRecord, if_neg owed]
  · rw [commit_findUser, if_neg hn]

end Sys2Proof.Machine
end

section
/-! PROOFS. Every step keeps the user records lawful (R1, R3, R4, R10): first the user table, then each operation of the model in the order
of its definition, and last the commands. -/

namespace Sys2Proof.Machine

/-! ### Lawful tables -/

/-- Records in ascending order of user number, each lawful. -/
def TableLawful (w : Nat) (l : List UserRec) : Prop := (l.map UserRec.user).Pairwise (· < ·) ∧ ∀ u ∈ l, u.lawful w

/-- The part of a record's law that re-evaluation does not establish (R3, R4). -/
def UserRec.bounded (u : UserRec) : Prop := u.soft ≤ u.hard ∧ u.remote.length ≤ Config.remoteSlots

theorem UserRec.lawful.bounded {w : Nat} {u : UserRec} (h : u.lawful w) : u.bounded := ⟨h.1, h.2.2⟩

/-- A record within its bounds is lawful once it is re-evaluated (R10). -/
theorem reevaluate_lawful_of_bounded (w g : Nat) {u : UserRec} (h : u.bounded) : (reevaluate w g u).lawful w := by
  have hl := reevaluate_lawful w g u
  obtain ⟨x, hx⟩ := reevaluate_eq w g u
  rw [hx] at hl ⊢
  exact ⟨h.1, hl, h.2⟩

/-- The record that an access leaves is lawful (R15). -/
theorem settledRecord_lawful (c : Settings) (old : UserRec) {changed : UserRec} (h : changed.bounded) :
    (settledRecord c old changed).lawful c.heldWeight := by
  have hl := reevaluate_lawful_of_bounded c.heldWeight c.grace h
  unfold settledRecord
  split <;> exact hl

theorem TableLawful.put {w : Nat} {u : UserRec} {l : List UserRec} (h : TableLawful w l) (hu : u.lawful w) :
    TableLawful w (putUser u l) := by
  refine ⟨by rw [putUser_users]; exact h.1, fun r hr => ?_⟩
  rcases mem_putUser hr with rfl | hr
  · exact hu
  · exact h.2 r hr

theorem TableLawful.insert {w : Nat} {u : UserRec} {l : List UserRec} (h : TableLawful w l) (hu : u.lawful w)
    (hn : ∀ r ∈ l, r.user ≠ u.user) : TableLawful w (insertUser u l) := by
  refine ⟨insertUser_sorted h.1 hn, fun r hr => ?_⟩
  rcases mem_insertUser.1 hr with rfl | hr
  · exact hu
  · exact h.2 r hr

theorem TableLawful.sublist {w : Nat} {l m : List UserRec} (h : TableLawful w l) (hm : m.Sublist l) : TableLawful w m :=
  ⟨h.1.sublist (hm.map _), fun u hu => h.2 u (hm.subset hu)⟩

/-- Report due is no part of a record's law. -/
theorem TableLawful.markDue {w : Nat} {l : List UserRec} (h : TableLawful w l) (p : UserRec → Bool) (due : Bool) :
    TableLawful w (modifyFirst p (fun r => { r with reportDue := due }) l) := by
  refine ⟨by rw [modifyFirst_map]; exacts [h.1, fun _ => rfl], fun u hu => ?_⟩
  rcases mem_modifyFirst _ _ hu with hu | ⟨r, hr, -, rfl⟩
  · exact h.2 u hu
  · exact h.2 r hr

/-- The law of the user records, by its two parts. -/
theorem usersLawful_iff {s : State} :
    s.usersLawful ↔
      TableLawful s.settings.heldWeight s.users ∧ (s.link.running = false → s.users = [] ∧ Client.request ∉ s.class1) := by
  unfold State.usersLawful TableLawful
  rw [and_assoc]

variable {s : State}

/-- A new table that is lawful, and empty where the old one is. -/
theorem State.usersLawful.withUsers (h : s.usersLawful) {l : List UserRec} (hl : TableLawful s.settings.heldWeight l)
    (hn : s.users = [] → l = []) : ({ s with users := l } : State).usersLawful :=
  usersLawful_iff.2 ⟨hl, fun hr => ⟨hn (h.2.2 hr).1, (h.2.2 hr).2⟩⟩

/-- Class 1 may change as long as no local request begins to wait. -/
theorem State.usersLawful.withClass1 (h : s.usersLawful) {l : List Client} (hl : Client.request ∈ l → Client.request ∈ s.class1) :
    ({ s with class1 := l } : State).usersLawful :=
  ⟨h.1, h.2.1, fun hr => ⟨(h.2.2 hr).1, fun hm => (h.2.2 hr).2 (hl hm)⟩⟩

/-- The Local Link may change as long as the station stays RUNNING or not. -/
theorem State.usersLawful.withLink (h : s.usersLawful) {l : Link} (hl : l.running = s.link.running) :
    ({ s with link := l } : State).usersLawful :=
  ⟨h.1, h.2.1, fun hr => h.2.2 (hl.symm.trans hr)⟩

theorem State.usersLawful.put (h : s.usersLawful) {u : UserRec} (hu : u.lawful s.settings.heldWeight) :
    ({ s with users := putUser u s.users } : State).usersLawful :=
  h.withUsers ((usersLawful_iff.1 h).1.put hu) fun hn => by rw [hn]; rfl

theorem findUser_lawful (h : s.usersLawful) {n : Nat} {u : UserRec} (hu : s.findUser n = some u) : u.lawful s.settings.heldWeight :=
  h.2.1 u (List.mem_of_find?_eq_some hu)

theorem findActive_lawful (h : s.usersLawful) {n : Nat} {u : UserRec} (hu : s.findActive n = some u) : u.lawful s.settings.heldWeight :=
  findUser_lawful h (findActive_eq_some.1 hu).1

theorem nextUser_lawful (h : s.usersLawful) {p : Option Nat} {u : UserRec} (hu : s.nextUser p = some u) :
    u.lawful s.settings.heldWeight :=
  h.2.1 u (List.mem_of_find?_eq_some hu)

/-! ### The shared operations on records -/

theorem commit_usersLawful (h : s.usersLawful) (old : UserRec) {changed : UserRec} (hc : changed.bounded) :
    (s.commit old changed).usersLawful :=
  h.put (settledRecord_lawful s.settings old hc)

theorem putState_usersLawful (h : s.usersLawful) {u : UserRec} {x : UserState} (hb : u.bounded)
    (hx : ({ u with state := x } : UserRec).stateLawful s.settings.heldWeight) : (s.putState u x).usersLawful :=
  h.put (u := { u with state := x }) ⟨hb.1, hx, hb.2⟩

theorem State.usersLawful.markDue (h : s.usersLawful) (p : UserRec → Bool) (due : Bool) :
    ({ s with users := modifyFirst p (fun r => { r with reportDue := due }) s.users } : State).usersLawful :=
  h.withUsers ((usersLawful_iff.1 h).1.markDue p due) fun hn => by rw [hn]; rfl

theorem setDue_usersLawful (n : Nat) (h : s.usersLawful) : (s.setDue n).usersLawful := h.markDue _ true

theorem clearDue_usersLawful (n : Nat) (h : s.usersLawful) : (s.clearDue n).usersLawful := h.markDue _ false

theorem State.usersLawful.erase (h : s.usersLawful) (p : UserRec → Bool) : ({ s with users := s.users.eraseP p } : State).usersLawful :=
  h.withUsers ((usersLawful_iff.1 h).1.sublist List.eraseP_sublist) fun hn => by rw [hn]; rfl

theorem freeUser_usersLawful (n : Nat) (h : s.usersLawful) : (s.freeUser n).usersLawful := h.erase _

theorem answer_usersLawful (x : Status) (c : Byte) (m : Bool) (b : ReplyBody) (h : s.usersLawful) : (s.answer x c m b).usersLawful :=
  h.withLink rfl

/-! ### The outbound queue -/

theorem depart_usersLawful (q : QNotice) (e : NoticeEnd) (h : s.usersLawful) : (s.depart q e).usersLawful := by
  unfold State.depart
  cases q.notice with
  | usage user x =>
    simp only []
    split
    · cases e with
      | displaced => exact setDue_usersLawful user h
      | _ => exact h
    · cases e with
      | dropped => simp only []; split <;> exact h
      | _ => exact h
  | _ => exact h

theorem placeFinal_usersLawful {n : Nat} {t : State} (h : s.usersLawful) (ht : s.placeFinal n = some t) : t.usersLawful := by
  unfold State.placeFinal at ht
  split at ht
  · cases ht
    exact h
  · split at ht
    · cases ht
      exact h
    · split at ht
      · cases ht
      · cases ht
        exact depart_usersLawful _ _ h

theorem placeOneWaiting_usersLawful (n : Nat) (h : s.usersLawful) : (s.placeOneWaiting n).usersLawful := by
  unfold State.placeOneWaiting
  split
  · exact h
  · rename_i t ht
    exact clearDue_usersLawful n (placeFinal_usersLawful h ht)

theorem placeWaiting_usersLawful (h : s.usersLawful) : s.placeWaiting.usersLawful :=
  foldl_keeps State.usersLawful _ _ (fun _ n ht => placeOneWaiting_usersLawful n ht) s h

theorem placeNow_usersLawful {n : Nat} {t : State} (h : s.usersLawful) (ht : s.placeNow n = some t) : t.usersLawful := by
  obtain ⟨u, hu, rfl | rfl⟩ := placeNow_eq ht
  · exact placeFinal_usersLawful h hu
  · exact placeWaiting_usersLawful (placeFinal_usersLawful h hu)

theorem endTransmission_usersLawful (e : NoticeEnd) (h : s.usersLawful) : (s.endTransmission e).usersLawful := by
  unfold State.endTransmission
  split
  · exact h
  · split <;> exact placeWaiting_usersLawful (depart_usersLawful _ _ h)

theorem abandonAttempt_usersLawful (h : s.usersLawful) : s.abandonAttempt.usersLawful := by
  unfold State.abandonAttempt
  split
  · exact endTransmission_usersLawful _ h
  · exact h

theorem failAttempt_usersLawful (h : s.usersLawful) : s.failAttempt.usersLawful := by
  unfold State.failAttempt
  split
  · exact h
  · split
    · exact endTransmission_usersLawful _ h
    · exact placeWaiting_usersLawful h

theorem offerEpoch_usersLawful (n : Notice) (h : s.usersLawful) : (s.offerEpoch n).usersLawful := by
  unfold State.offerEpoch
  split
  · exact h
  · split
    · exact h
    · split
      · exact h
      · exact depart_usersLawful _ _ (placeWaiting_usersLawful h)

theorem withdraw_usersLawful (p : Notice → Bool) (h : s.usersLawful) : (s.withdraw p).usersLawful := by
  unfold State.withdraw
  split
  · exact h
  · exact placeWaiting_usersLawful (depart_usersLawful _ _ h)

/-! ### The follow-on steps -/

theorem closeTest_usersLawful (e : Epoch) (h : s.usersLawful) : (s.closeTest e).usersLawful := by
  unfold State.closeTest
  split
  · exact h
  · split <;> exact h

theorem abandonAsked_usersLawful (b : Bool) (h : s.usersLawful) : (s.abandonAsked b).usersLawful := by
  unfold State.abandonAsked
  split
  · exact h
  · simp only []
    split
    · exact withdraw_usersLawful _ h
    · exact h

theorem dropRequired_usersLawful (st : Station) (e : Epoch) (h : s.usersLawful) : (s.dropRequired st e).usersLawful := by
  unfold State.dropRequired
  split
  · exact h
  · split
    · exact closeTest_usersLawful e h
    · exact h

theorem freeRetired_usersLawful (n : Nat) (h : s.usersLawful) : (s.freeRetired n).usersLawful := by
  unfold State.freeRetired
  split
  · simp only []
    split
    · exact freeUser_usersLawful n h
    · exact h
  · exact h

theorem dueAfterLoss_usersLawful (n : Nat) (h : s.usersLawful) : (s.dueAfterLoss n).usersLawful := by
  unfold State.dueAfterLoss
  split
  · simp only []
    split
    · exact h
    · exact setDue_usersLawful n h
  · exact h

theorem takeStretched_usersLawful (h : s.usersLawful) : s.takeStretched.usersLawful := by
  unfold State.takeStretched
  split
  · split <;> exact h
  all_goals exact h

theorem agePeer_usersLawful (st : Station) (h : s.usersLawful) : (s.agePeer st).usersLawful := by
  unfold State.agePeer
  split
  · exact foldl_keeps State.usersLawful _ _ (fun _ e ht => dropRequired_usersLawful st e ht) _ h
  · exact h

theorem expireAsk_usersLawful (h : s.usersLawful) : s.expireAsk.usersLawful := by
  unfold State.expireAsk
  split
  · exact h
  · split
    · exact abandonAsked_usersLawful _ h
    · exact h

theorem expireClose_usersLawful (e : Epoch) (h : s.usersLawful) : (s.expireClose e).usersLawful := by
  unfold State.expireClose
  split
  · exact h
  · split <;> exact h

theorem offerRelease_usersLawful (i : Fin 8) (h : s.usersLawful) : (s.offerRelease i).usersLawful := by
  unfold State.offerRelease
  split
  · exact h
  · split
    · exact State.usersLawful.withClass1 (s := s) h (by simp)
    · exact h

theorem expireWindow_usersLawful (h : s.usersLawful) : s.expireWindow.usersLawful := by
  unfold State.expireWindow
  split <;> exact h

theorem settle_usersLawful (h : s.usersLawful) : s.settle.usersLawful :=
  settle_keeps State.usersLawful (fun _ n => freeRetired_usersLawful n) (fun _ n => dueAfterLoss_usersLawful n)
    (fun _ => takeStretched_usersLawful) (fun _ st => agePeer_usersLawful st) (fun _ => expireAsk_usersLawful)
    (fun _ e => expireClose_usersLawful e) (fun _ i => offerRelease_usersLawful i) (fun _ => expireWindow_usersLawful) s h

/-! ### Requests, accesses and receipts -/

/-- The end of a transaction, where the taking of its request keeps the law; it is taken on a RUNNING station, or is one of those taken
before CONFIGURE (R182, R186). -/
theorem endTransaction_usersLawful (record : Record) (trailing : Bool) {take : Request → State → State}
    (hTake : ∀ (r : Request) (t : State),
      t.link.running = true ∨ r.takenUnconfigured = true → t.usersLawful → (take r t).usersLawful)
    (h : s.usersLawful) : (s.endTransaction record trailing take).usersLawful :=
  endTransaction_keeps State.usersLawful take (fun _ _ hl ht => ht.withLink hl) (fun _ _ ht => ht)
    (fun _ x c m b => answer_usersLawful x c m b) hTake record trailing s h

theorem takeAtOnce_usersLawful (c : Byte) {handle : State → Answer} (hHandle : ∀ t : State, t.usersLawful → (handle t).1.usersLawful)
    (h : s.usersLawful) : (s.takeAtOnce c handle).usersLawful :=
  answer_usersLawful _ _ _ _ (hHandle _ (settle_usersLawful h))

/-- A local request waits on a RUNNING station alone (R186). -/
theorem takeAccess_usersLawful (a : Access) (hr : s.link.running = true) (h : s.usersLawful) : (s.takeAccess a).usersLawful := by
  have ht := settle_usersLawful h
  have hr' : s.settle.link.running = true := by rw [settle_link, hr]
  unfold State.takeAccess
  generalize s.settle = t at ht hr'
  exact ⟨ht.1, ht.2.1, fun hf => absurd (hr'.symm.trans hf) (by simp)⟩

/-- An access is served on a RUNNING station, since its request waited in class 1 (R186). -/
theorem accessRequest_usersLawful (a : Access) {body : State → Answer}
    (hBody : ∀ t : State, t.link.running = true → t.usersLawful → (body t).1.usersLawful) (h : s.usersLawful) :
    (s.accessRequest a body).usersLawful := by
  have ht := settle_usersLawful h
  unfold State.accessRequest
  generalize s.settle = t at ht
  simp only []
  split
  · rename_i hs
    have hc : Client.request ∈ t.class1 := by
      simp only [State.serves, Bool.and_eq_true, decide_eq_true_eq] at hs
      exact List.mem_of_head? hs.1
    have hr : t.link.running = true := by
      by_contra hf
      exact (ht.2.2 (by simpa using hf)).2 hc
    have hp := ht.withClass1 (l := t.class1.tail) List.mem_of_mem_tail
    exact answer_usersLawful _ _ _ _ ((hBody { t with class1 := t.class1.tail } hr hp).withLink rfl)
  · exact h

theorem receive_usersLawful {α : Type} (pick : Notice → Option α) {act : Station → α → State → State}
    (hAct : ∀ (st : Station) (a : α) (t : State), t.usersLawful → (act st a t).usersLawful) (h : s.usersLawful) :
    (s.receive pick act).usersLawful :=
  receive_keeps State.usersLawful pick act (fun _ => settle_usersLawful) (fun _ ht => ht) hAct s h

end Sys2Proof.Machine
end

section
/-! PROOFS. The accesses, requests and events of every block keep the user records lawful (R1, R3, R4, R10). -/

namespace Sys2Proof.Machine

variable {s : State}

/-! ### The requests of chapter 2 -/

/-- An access after the checks of R25: only the work on a record that was found can change anything. -/
theorem withUser_usersLawful (n : Nat) (refused : UserBlock → ReplyBody) {act : UserRec → State → Answer}
    (hAct : ∀ u, s.findActive n = some u → (act u s).1.usersLawful) (h : s.usersLawful) : (s.withUser n refused act).1.usersLawful := by
  unfold State.withUser
  split
  · exact h
  · split
    · exact h
    · rename_i u hu
      exact hAct u hu

theorem chargeAccess_usersLawful (n k : Nat) (h : s.usersLawful) : (chargeAccess n k s).1.usersLawful := by
  unfold chargeAccess
  split
  · exact h
  · refine withUser_usersLawful _ _ (fun u hu => ?_) h
    simp only []
    split
    · exact commit_usersLawful h u (findActive_lawful h hu).bounded
    · exact h

theorem creditAccess_usersLawful (n k : Nat) (h : s.usersLawful) : (creditAccess n k s).1.usersLawful := by
  unfold creditAccess
  split
  · exact h
  · split
    · exact h
    · exact withUser_usersLawful _ _ (fun u hu => commit_usersLawful h u (findActive_lawful h hu).bounded) h

/-- A new record's soft limit is cut to its hard limit, and its state is evaluated (R30). -/
theorem newUser_lawful (w g user soft hard live : Nat) : (newUser w g user soft hard live).lawful w :=
  reevaluate_lawful_of_bounded w g ⟨Nat.min_le_right _ _, Nat.zero_le _⟩

/-- A record is created on a RUNNING station alone, for a user who has none (R29). -/
theorem userLoadAccess_usersLawful (n soft hard live : Nat) (hr : s.link.running = true) (h : s.usersLawful) :
    (userLoadAccess n soft hard live s).1.usersLawful := by
  unfold userLoadAccess
  split
  · exact h
  · split
    · exact h
    · split
      · split <;> exact h
      · rename_i hnone
        split
        · exact h
        · have hn : ∀ r ∈ s.users, r.user ≠ n := by simpa [State.findUser] using hnone
          refine usersLawful_iff.2 ⟨(usersLawful_iff.1 h).1.insert (newUser_lawful _ _ _ _ _ _) fun r hm => ?_, fun hf => ?_⟩
          · simpa [newUser] using hn r hm
          · exact absurd (hr.symm.trans hf) (by simp)

theorem userLimitsAccess_usersLawful (n soft hard : Nat) (h : s.usersLawful) : (userLimitsAccess n soft hard s).1.usersLawful := by
  unfold userLimitsAccess
  split
  · exact h
  · split
    · exact h
    · exact withUser_usersLawful _ _
        (fun u hu => commit_usersLawful h u ⟨Nat.min_le_right _ _, (findActive_lawful h hu).bounded.2⟩) h

theorem userFreezeAccess_usersLawful (n : Nat) (h : s.usersLawful) : (userFreezeAccess n s).1.usersLawful :=
  withUser_usersLawful _ _ (fun _ hu => putState_usersLawful h (findActive_lawful h hu).bounded trivial) h

/-- A thawed record is UNDER or LAPSED as its estimate says (R33). -/
theorem userThawAccess_usersLawful (n : Nat) (h : s.usersLawful) : (userThawAccess n s).1.usersLawful := by
  refine withUser_usersLawful _ _ (fun u hu => ?_) h
  simp only []
  split
  · have hb := (findActive_lawful h hu).bounded
    by_cases he : estimate s.settings.heldWeight u ≤ u.soft
    · rw [if_pos he]
      exact putState_usersLawful h hb he
    · rw [if_neg he]
      exact putState_usersLawful h hb (Nat.lt_of_not_le he)
  · exact h

theorem beginRetiring_usersLawful {u : UserRec} (hb : u.bounded) (h : s.usersLawful) : (s.beginRetiring u).usersLawful := by
  have ht : (s.putState { u with reported := 0, reportDue := false } .retiring).usersLawful := putState_usersLawful h hb trivial
  unfold State.beginRetiring
  simp only []
  split
  · rename_i placed hp
    exact placeNow_usersLawful ht hp
  · exact setDue_usersLawful u.user ht

theorem retireNow_usersLawful (owed : Bool) (n : Nat) (h : s.usersLawful) : (s.retireNow owed n).usersLawful := by
  unfold State.retireNow
  split
  · cases hp : s.placeNow n with
    | none => exact freeUser_usersLawful n h
    | some t => exact freeUser_usersLawful n (placeNow_usersLawful h hp)
  · exact freeUser_usersLawful n h

theorem userRetireAccess_usersLawful (n : Nat) (h : s.usersLawful) : (userRetireAccess n s).1.usersLawful := by
  refine withUser_usersLawful _ _ (fun u hu => ?_) h
  simp only []
  split
  · exact h
  · split
    · exact beginRetiring_usersLawful (findActive_lawful h hu).bounded h
    · exact retireNow_usersLawful _ _ h

theorem userQueryAccess_usersLawful (n : Nat) (h : s.usersLawful) : (userQueryAccess n s).1.usersLawful :=
  withUser_usersLawful _ _ (fun _ _ => h) h

theorem userResyncAccess_usersLawful (n : Nat) (h : s.usersLawful) : (userResyncAccess n s).1.usersLawful :=
  withUser_usersLawful _ _ (fun u hu => setDue_usersLawful n (commit_usersLawful h u (findActive_lawful h hu).bounded)) h

theorem userWatchAccess_usersLawful (n : Nat) (h : s.usersLawful) : (userWatchAccess n s).1.usersLawful := by
  refine withUser_usersLawful _ _ (fun u hu => ?_) h
  split
  · exact h
  · split <;> exact h

theorem userUnwatchAccess_usersLawful (n : Nat) (h : s.usersLawful) : (userUnwatchAccess n s).1.usersLawful :=
  withUser_usersLawful _ _ (fun _ _ => h) h

/-! ### Holds -/

theorem holdAccess_usersLawful (n : Nat) (e : Epoch) (k : Nat) (h : s.usersLawful) : (holdAccess n e k s).1.usersLawful := by
  unfold holdAccess
  split
  · exact h
  · split
    · exact h
    · refine withUser_usersLawful _ _ (fun u hu => ?_) h
      simp only []
      split
      · exact h
      · iterate 5 (split; · exact h)
        exact commit_usersLawful (s := State.modifyEpoch e _ { s with holds := addHold u.user e k s.holds }) h u
          (findActive_lawful h hu).bounded

theorem continueExpiry_usersLawful (e : Epoch) (k : Nat) (h : s.usersLawful) : (s.continueExpiry e k).usersLawful := by
  unfold State.continueExpiry
  split <;> exact h

theorem beginExpiry_usersLawful (e : Epoch) (discard : Bool) (h : s.usersLawful) : (s.beginExpiry e discard).usersLawful := by
  unfold State.beginExpiry
  split <;> exact continueExpiry_usersLawful e 0 h

theorem snapExpire_usersLawful (e : Epoch) (discard : Bool) (h : s.usersLawful) : (snapExpire e discard s).1.usersLawful := by
  unfold snapExpire
  split
  · exact h
  · split
    · exact beginExpiry_usersLawful e discard h
    · exact h

theorem releaseHold_usersLawful (x : Hold) (h : s.usersLawful) : (s.releaseHold x).usersLawful := by
  unfold State.releaseHold
  simp only []
  split
  · exact h
  · rename_i u hu
    have hb := (findUser_lawful (s := s) h hu).bounded
    exact commit_usersLawful (s := State.modifyEpoch x.epoch _ { s with holds := _ }) h u hb

theorem serveExpiryStep_usersLawful (h : s.usersLawful) : s.serveExpiryStep.usersLawful := by
  have ht := settle_usersLawful h
  unfold State.serveExpiryStep
  generalize s.settle = t at ht
  simp only []
  split
  · split
    · unfold State.expiryStep
      split
      · exact ht
      · exact continueExpiry_usersLawful _ _ (releaseHold_usersLawful _ ht)
    · exact h
  all_goals exact h

/-! ### Restores -/

theorem restoreBeginAccess_usersLawful (n : Nat) (e : Epoch) (k : Nat) (h : s.usersLawful) :
    (restoreBeginAccess n e k s).1.usersLawful := by
  unfold restoreBeginAccess
  split
  · exact h
  · split
    · exact h
    · refine withUser_usersLawful _ _ (fun u hu => ?_) h
      simp only []
      split
      · exact h
      · iterate 2 (split; · exact h)
        split
        · exact h
        · rename_i i hi
          split
          · exact commit_usersLawful (s := State.modifyEpoch e _ (s.setJob i _)) h u (findActive_lawful h hu).bounded
          · exact h

/-- A change of a job's user record that leaves its limits and its remote list alone (R137, R140). -/
theorem changeJobUser_usersLawful (n : Nat) {f : UserRec → UserRec} (hf : ∀ u : UserRec, u.bounded → (f u).bounded)
    (h : s.usersLawful) : (s.changeJobUser n f).usersLawful := by
  unfold State.changeJobUser
  split
  · exact h
  · rename_i u hu
    exact commit_usersLawful h u (hf u (findActive_lawful h hu).bounded)

theorem restoreProgressAccess_usersLawful (handle k : Nat) (h : s.usersLawful) : (restoreProgressAccess handle k s).1.usersLawful := by
  unfold restoreProgressAccess
  iterate 3 (split; · exact h)
  split
  · exact h
  · exact changeJobUser_usersLawful (s := s.setJob _ _) _ (fun _ hu => hu) h

theorem endJob_usersLawful (i : Fin 8) (j : Job) (h : s.usersLawful) : (s.endJob i j).usersLawful :=
  changeJobUser_usersLawful (s := (s.setJob i _).modifyEpoch j.epoch _) _ (fun _ hu => hu) h

theorem restoreEndAccess_usersLawful (handle : Nat) (h : s.usersLawful) : (restoreEndAccess handle s).1.usersLawful := by
  unfold restoreEndAccess
  split
  · exact h
  · split
    · exact h
    · exact endJob_usersLawful _ _ h

theorem idleRelease_usersLawful (i gen : Fin 8) (h : s.usersLawful) : (s.idleRelease i gen).usersLawful := by
  unfold State.idleRelease
  split
  · exact h
  · split
    · exact endJob_usersLawful _ _ h
    · exact h

theorem serveIdleRelease_usersLawful (h : s.usersLawful) : s.serveIdleRelease.usersLawful := by
  have ht := settle_usersLawful h
  unfold State.serveIdleRelease
  generalize s.settle = t at ht
  simp only []
  split
  · rename_i i gen rest hc
    exact idleRelease_usersLawful i gen (ht.withClass1 fun hm => by rw [hc]; exact List.mem_cons_of_mem _ hm)
  all_goals exact h

theorem restartRelease_usersLawful (i gen : Fin 8) (h : s.usersLawful) : (s.restartRelease i gen).usersLawful := by
  unfold State.restartRelease
  split
  · exact h
  · exact endJob_usersLawful _ _ h

theorem finishRestart_usersLawful (h : s.usersLawful) : s.finishRestart.usersLawful := by
  unfold State.finishRestart
  split
  · exact h
  · split
    · exact h
    · split
      · exact answer_usersLawful _ _ _ _ (h.withLink rfl)
      · exact h

@[simp] theorem countEnded_running (n : Nat) (l : Link) : (l.countEnded n).running = l.running := by
  unfold Link.countEnded
  split
  · rfl
  · split <;> rfl

/-- A release of RESTART leaves the Local Link alone. -/
@[simp] theorem restartRelease_link (i gen : Fin 8) : (s.restartRelease i gen).link = s.link := by
  unfold State.restartRelease
  split
  · rfl
  · unfold State.endJob State.changeJobUser
    split <;> rfl

theorem serveRestartRelease_usersLawful (h : s.usersLawful) : s.serveRestartRelease.usersLawful := by
  have ht := settle_usersLawful h
  unfold State.serveRestartRelease
  generalize s.settle = t at ht
  simp only []
  split
  · rename_i i gen rest hc
    have hp := ht.withClass1 (l := rest) fun hm => by rw [hc]; exact List.mem_cons_of_mem _ hm
    exact finishRestart_usersLawful ((restartRelease_usersLawful i gen hp).withLink (by simp))
  all_goals exact h

/-! ### Snapshots -/

theorem snapTake_usersLawful (h : s.usersLawful) : (snapTake s).1.usersLawful := by
  unfold snapTake
  iterate 3 (split; · exact h)
  exact offerEpoch_usersLawful (s := { s with cat := _, latest := _ }) _ h

theorem snapReady_usersLawful (e : Epoch) (h : s.usersLawful) : (snapReady e s).1.usersLawful := by
  unfold snapReady
  split
  · exact h
  · split
    · exact closeTest_usersLawful e (offerEpoch_usersLawful (s := s.modifyEpoch e _) _ h)
    · exact h

theorem newProposal_usersLawful (st : Station) (e : Epoch) (early : StationSet) (h : s.usersLawful) :
    (s.newProposal st e early).usersLawful := by
  unfold State.newProposal
  split
  · have ha := abandonAsked_usersLawful true h
    unfold State.enterProposal
    split <;> exact ha
  · exact h

theorem answerStale_usersLawful (l : Epoch) (h : s.usersLawful) : (s.answerStale l).usersLawful := by
  unfold State.answerStale
  split
  · exact h
  · exact offerEpoch_usersLawful _ (withdraw_usersLawful _ h)

theorem receiveProposal_usersLawful (st : Station) (e : Epoch) (h : s.usersLawful) : (receiveProposal st e s).usersLawful := by
  unfold receiveProposal
  split
  · exact newProposal_usersLawful _ _ _ h
  · split
    · exact h
    · split
      · exact withdraw_usersLawful _ h
      · exact answerStale_usersLawful _ h

theorem receiveReady_usersLawful (st : Station) (e : Epoch) (h : s.usersLawful) : (receiveReady st e s).usersLawful := by
  unfold receiveReady
  split
  · exact closeTest_usersLawful (s := s.modifyEpoch e _) e h
  · split
    · exact newProposal_usersLawful _ _ _ h
    · exact h

theorem hearLatest_usersLawful (l : Epoch) (h : s.usersLawful) : (s.hearLatest l).usersLawful := by
  unfold State.hearLatest
  split
  · split
    · exact abandonAsked_usersLawful true h
    · exact h
  · exact h

/-! ### The Peer View and the sweeps -/

/-- Entries that leave a remote list leave the record within its bounds. -/
theorem withoutStation_bounded (st : Station) {u : UserRec} (h : u.bounded) : (withoutStation st u).bounded :=
  ⟨h.1, Nat.le_trans (List.length_filter_le _ _) h.2⟩

theorem removeStation_usersLawful (st : Station) {u : UserRec} (hu : u.bounded) (h : s.usersLawful) :
    (s.removeStation st u).usersLawful := by
  unfold State.removeStation
  split
  · exact commit_usersLawful h u (withoutStation_bounded st hu)
  · exact h

theorem continueDrop_usersLawful (st : Station) (p : Option Nat) (k : Nat) (h : s.usersLawful) : (s.continueDrop st p k).usersLawful := by
  unfold State.continueDrop
  split <;> exact h

theorem dropStep_usersLawful (st : Station) (p : Option Nat) (k : Nat) (h : s.usersLawful) : (s.dropStep st p k).usersLawful := by
  unfold State.dropStep
  split
  · exact h
  · rename_i u hu
    exact continueDrop_usersLawful _ _ _ (removeStation_usersLawful st (nextUser_lawful h hu).bounded h)

theorem serveDropStep_usersLawful (h : s.usersLawful) : s.serveDropStep.usersLawful := by
  have ht := settle_usersLawful h
  unfold State.serveDropStep
  generalize s.settle = t at ht
  simp only []
  split
  · split
    · exact dropStep_usersLawful _ _ _ ht
    · exact h
  all_goals exact h

theorem peerDrop_usersLawful (n : Nat) (h : s.usersLawful) : (peerDrop n s).1.usersLawful := by
  unfold peerDrop
  split
  · simp only []
    iterate 3 (split; · exact h)
    exact continueDrop_usersLawful _ _ _ h
  · exact h

theorem cutDrop_usersLawful (st : Station) (served : Bool) (h : s.usersLawful) : (s.cutDrop st served).usersLawful := by
  unfold State.cutDrop
  split
  · exact h
  · exact h
  · rename_i position _ _ _
    split
    · split
      · exact h
      · rename_i u hu
        have hn : s.nextUser position = some u := by
          cases served
          · simp at hu
          · simpa using hu
        exact removeStation_usersLawful st (nextUser_lawful h hn).bounded h
    · exact h

theorem hear_usersLawful (st : Station) (served : Bool) (h : s.usersLawful) : (s.hear st served).usersLawful := by
  unfold State.hear
  split
  · exact h
  · simp only []
    split
    · exact h
    · exact h
    · exact cutDrop_usersLawful (s := State.raise _ _ _ (s.setPeer st _)) st served h

/-- A report keeps a remote list within 4 entries (R3, R77, R78). -/
theorem receiveReport_bounded (st : Station) (x : Nat) {u : UserRec} (h : u.bounded) : (receiveReport st x u).bounded := by
  obtain ⟨hlim, hrem⟩ := h
  unfold receiveReport
  split
  · split
    · exact withoutStation_bounded st ⟨hlim, hrem⟩
    · exact ⟨hlim, by simpa using hrem⟩
  · split
    · exact ⟨hlim, hrem⟩
    · split
      · rename_i hroom
        exact ⟨hlim, by simpa using hroom⟩
      · unfold meetFullList
        split
        · exact ⟨hlim, hrem⟩
        · split
          · exact ⟨hlim, by simpa using hrem⟩
          · exact ⟨hlim, hrem⟩

theorem receiveUsage_usersLawful (st : Station) (n x : Nat) (h : s.usersLawful) : (receiveUsage st n x s).usersLawful := by
  unfold receiveUsage
  split
  · exact h
  · rename_i u hu
    exact commit_usersLawful h u (receiveReport_bounded st x (findActive_lawful h hu).bounded)

theorem serveUsage_usersLawful (h : s.usersLawful) : s.serveUsage.usersLawful := by
  unfold State.serveUsage
  split
  · exact receive_usersLawful _ (fun st r _ => receiveUsage_usersLawful st r.1 r.2) h
  · exact h

theorem receivePresence_usersLawful (st : Station) (l : Option Epoch) (h : s.usersLawful) : (receivePresence st l s).usersLawful := by
  unfold receivePresence
  cases l with
  | none => exact h
  | some l => exact hearLatest_usersLawful (s := s.setPeer st _) l h

/-- A visit writes what was reported of a record, which is no part of its law (R82). -/
theorem visitDigest_usersLawful {u : UserRec} (hu : u.lawful s.settings.heldWeight) (h : s.usersLawful) :
    (s.visitDigest u).usersLawful := by
  unfold State.visitDigest
  simp only []
  split
  · exact h.put (u := { u with reported := ownCharge s.settings.heldWeight u, reportDue := false }) hu
  · exact h

theorem serveDigestVisit_usersLawful (h : s.usersLawful) : s.serveDigestVisit.usersLawful := by
  have ht := settle_usersLawful h
  unfold State.serveDigestVisit
  generalize s.settle = t at ht
  simp only []
  split
  · split
    · exact h
    · rename_i u hu
      have hm : u ∈ t.users := by
        unfold State.digestRecord at hu
        split at hu
        · rename_i v hv
          cases hu
          exact List.mem_of_find?_eq_some hv
        · exact List.mem_of_head? hu
      exact visitDigest_usersLawful (ht.2.1 u hm) ht
  · exact h

theorem digestResume_usersLawful (h : s.usersLawful) : (digestResume s).1.usersLawful := by
  unfold digestResume
  simp only []
  split <;> exact h

theorem reachGap_usersLawful (h : s.usersLawful) : s.reachGap.usersLawful := by
  unfold State.reachGap
  split <;> exact h

theorem endScan_usersLawful (h : s.usersLawful) : s.endScan.usersLawful := by
  unfold State.endScan
  split
  · exact h
  · split <;> exact h

theorem continueScan_usersLawful (h : s.usersLawful) : s.continueScan.usersLawful := by
  unfold State.continueScan
  split
  · exact endScan_usersLawful h
  · exact h

/-- GRACE that runs down or lapses keeps an estimate above the soft limit (R10, R19). -/
theorem visitGrace_usersLawful {u : UserRec} (hu : u.lawful s.settings.heldWeight) (h : s.usersLawful) : (s.visitGrace u).usersLawful := by
  have hb := hu.bounded
  obtain ⟨-, hs, -⟩ := hu
  unfold State.visitGrace
  split
  · rename_i hg
    have ha : u.soft < estimate s.settings.heldWeight u := by simpa [UserRec.stateLawful, hg] using hs
    exact putState_usersLawful (s := s.raise _ _ _) h hb ha
  · rename_i n hg
    have ha : u.soft < estimate s.settings.heldWeight u := by simpa [UserRec.stateLawful, hg] using hs
    exact h.put (u := { u with state := .grace n }) ⟨hb.1, ha, hb.2⟩
  all_goals exact h

theorem scanVisit_usersLawful (h : s.usersLawful) : s.scanVisit.usersLawful := by
  unfold State.scanVisit
  split
  · exact endScan_usersLawful h
  · rename_i u hu
    exact continueScan_usersLawful (s := { s.visitGrace u with scan := _ }) (visitGrace_usersLawful (nextUser_lawful h hu) h)

theorem serveScanVisit_usersLawful (h : s.usersLawful) : s.serveScanVisit.usersLawful := by
  have ht := settle_usersLawful h
  unfold State.serveScanVisit
  generalize s.settle = t at ht
  simp only []
  split
  · exact scanVisit_usersLawful ht
  · exact h

theorem peerQuery_usersLawful (n : Nat) (h : s.usersLawful) : (peerQuery n s).1.usersLawful := by
  unfold peerQuery
  split
  · simp only []
    split <;> exact h
  · exact h

end Sys2Proof.Machine
end

section
/-! PROOFS. The Duplication Unit, the Peer Line, the Timebase and the station's own commands keep the user records lawful; and so does every
step (R1, R3, R4, R10). -/

namespace Sys2Proof.Machine

variable {s : State}

/-! ### The Duplication Unit -/

theorem modifyWorkEpoch_usersLawful (w : DupWork) (f : CatEntry → CatEntry) (h : s.usersLawful) :
    (s.modifyWorkEpoch w f).usersLawful := by
  unfold State.modifyWorkEpoch
  split <;> exact h

theorem dupExtent_usersLawful (e : Epoch) (token : Token) (units : Nat) (h : s.usersLawful) :
    (dupExtent e token units s).1.usersLawful := by
  unfold dupExtent
  iterate 2 (split; · exact h)
  split
  · exact h
  · iterate 3 (split; · exact h)
    exact h

theorem dupEnd_usersLawful (e : Epoch) (h : s.usersLawful) : (dupEnd e s).1.usersLawful := by
  unfold dupEnd
  split
  · exact h
  · iterate 2 (split; · exact h)
    exact h

theorem dupHalt_usersLawful (h : s.usersLawful) : (dupHalt s).1.usersLawful := by
  unfold dupHalt
  split <;> exact h

theorem windowOpen_usersLawful (h : s.usersLawful) : (windowOpen s).1.usersLawful := by
  unfold windowOpen
  split <;> exact h

theorem windowClose_usersLawful (h : s.usersLawful) : (windowClose s).1.usersLawful := by
  unfold windowClose
  split <;> exact h

theorem grant_usersLawful (i : Fin 8) (q : DupEntry) (rest : List DupEntry) (charged : Dup) (h : s.usersLawful) :
    (s.grant i q rest charged).usersLawful :=
  modifyWorkEpoch_usersLawful (s := { s with dup := _ }) _ _ h

theorem grantHead_usersLawful (i : Fin 8) (q : DupEntry) (rest : List DupEntry) (h : s.usersLawful) :
    (grantHead i q rest s).1.usersLawful := by
  unfold grantHead
  split
  · exact h
  · split
    · exact h
    · exact grant_usersLawful _ _ _ _ h
  · split
    · exact h
    · exact grant_usersLawful _ _ _ _ h

theorem grantTake_usersLawful (h : s.usersLawful) : (grantTake s).1.usersLawful := by
  unfold grantTake
  split
  · exact h
  · split
    · exact h
    · split
      · exact h
      · split
        · exact h
        · split
          · exact h
          · exact grantHead_usersLawful _ _ _ h

theorem freeGrantSlot_usersLawful (i : Fin 8) (g : Grant) (h : s.usersLawful) : (s.freeGrantSlot i g).usersLawful :=
  modifyWorkEpoch_usersLawful (s := { s with dup := _ }) _ _ h

theorem returnEntry_usersLawful (w : DupWork) (retries : Nat) (h : s.usersLawful) : (s.returnEntry w retries).usersLawful := by
  have hw := modifyWorkEpoch_usersLawful (s := { s with dup := { s.dup with
    queue := { work := w, parity := s.dup.returnParity, retries := retries } :: s.dup.queue } }) w
    (fun c => { c with queuedCount := c.queuedCount + 1 }) h
  unfold State.returnEntry
  cases w with
  | extent e token units =>
    simp only []
    split
    · exact h
    · exact hw
  | endMark e => exact hw
  | halt => exact hw

theorem grantSucceeds_usersLawful (i : Fin 8) (g : Grant) (h : s.usersLawful) : (s.grantSucceeds i g).usersLawful := by
  have hf := freeGrantSlot_usersLawful i g h
  unfold State.grantSucceeds
  simp only []
  split <;> exact hf

theorem grantDropped_usersLawful (i : Fin 8) (g : Grant) (h : s.usersLawful) : (s.grantDropped i g).usersLawful := by
  have hf := modifyWorkEpoch_usersLawful g.work (sendDropped g.work) (freeGrantSlot_usersLawful i g h)
  unfold State.grantDropped
  simp only []
  split <;> exact hf

theorem grantDone_usersLawful (handle : Nat) (failed : Bool) (h : s.usersLawful) : (grantDone handle failed s).1.usersLawful := by
  unfold grantDone
  split
  · exact h
  · split
    · exact h
    · split
      · split
        · exact returnEntry_usersLawful _ _ (freeGrantSlot_usersLawful _ _ h)
        · exact grantDropped_usersLawful _ _ h
      · exact grantSucceeds_usersLawful _ _ h

theorem returnGrants_usersLawful (h : s.usersLawful) : s.returnGrants.usersLawful :=
  foldl_keeps State.usersLawful _ _ (fun _ g ht => returnEntry_usersLawful _ _ (freeGrantSlot_usersLawful g.1 g.2 ht)) s h

/-! ### The Peer Line -/

theorem startSending_usersLawful (h : s.usersLawful) : s.startSending.usersLawful := by
  have ht := settle_usersLawful h
  unfold State.startSending
  generalize s.settle = t at ht
  simp only []
  split
  · exact ht
  all_goals exact h

theorem loseArbitration_usersLawful (bit : Nat) (h : s.usersLawful) : (s.loseArbitration bit).usersLawful := by
  have ht := settle_usersLawful h
  unfold State.loseArbitration
  generalize s.settle = t at ht
  simp only []
  split
  · exact abandonAttempt_usersLawful ht
  · exact h

theorem meetClash_usersLawful (bit : Nat) (h : s.usersLawful) : (s.meetClash bit).usersLawful := by
  have ht := settle_usersLawful h
  unfold State.meetClash
  generalize s.settle = t at ht
  simp only []
  split
  · split
    · exact h
    · exact endTransmission_usersLawful .clash ht
  · exact h

theorem meetChange_usersLawful (byStart : Bool) (h : s.usersLawful) : (s.meetChange byStart).usersLawful := by
  have ht := settle_usersLawful h
  unfold State.meetChange
  generalize s.settle = t at ht
  simp only []
  split
  · split <;> exact abandonAttempt_usersLawful ht
  · exact h

theorem actOnSlots_usersLawful (slotA slotR : Bool) (h : s.usersLawful) : (s.actOnSlots slotA slotR).usersLawful := by
  unfold State.actOnSlots
  split
  · exact endTransmission_usersLawful _ h
  · split
    · exact endTransmission_usersLawful _ h
    · exact failAttempt_usersLawful h

theorem endAttempt_usersLawful (slotA slotR : Bool) (h : s.usersLawful) : (s.endAttempt slotA slotR).usersLawful := by
  have ht := settle_usersLawful h
  unfold State.endAttempt
  generalize s.settle = t at ht
  simp only []
  split
  · exact actOnSlots_usersLawful slotA slotR ht
  · exact h

theorem verdict_usersLawful (f : SampledFrame) (n : Notice) (h : s.usersLawful) : (s.verdict f n).usersLawful := by
  unfold State.verdict
  simp only []
  iterate 4 (split; · exact h)
  exact h

theorem judgeFrame_usersLawful (f : SampledFrame) (h : s.usersLawful) : (s.judgeFrame f).usersLawful := by
  have ht := settle_usersLawful h
  unfold State.judgeFrame
  generalize s.settle = t at ht
  simp only []
  split
  · split
    · split
      · exact ht
      · exact verdict_usersLawful _ _ ht
    · exact h
  all_goals exact h

theorem stretchLimit_usersLawful (h : s.usersLawful) : s.stretchLimit.usersLawful := by
  unfold State.stretchLimit
  split
  · split <;> exact h
  all_goals exact h

theorem frameStops_usersLawful (served : Bool) (h : s.usersLawful) : (s.frameStops served).usersLawful := by
  have ht := settle_usersLawful h
  unfold State.frameStops
  generalize s.settle = t at ht
  simp only []
  split
  · exact h
  · exact hear_usersLawful (s := t.makeAvailable.setLine _ _) _ served ht

theorem breakFrame_usersLawful (how : FrameBreak) (h : s.usersLawful) : (s.breakFrame how).usersLawful := by
  unfold State.breakFrame
  split
  · cases how <;> exact h
  · exact h

theorem anotherStart_usersLawful (h : s.usersLawful) : s.anotherStart.usersLawful := by
  unfold State.anotherStart
  split <;> exact h

theorem strayFall_usersLawful (h : s.usersLawful) : s.strayFall.usersLawful := by
  unfold State.strayFall
  split <;> exact h

theorem busyEnds_usersLawful (h : s.usersLawful) : s.busyEnds.usersLawful := by
  unfold State.busyEnds
  split <;> exact h

theorem gapEnds_usersLawful (h : s.usersLawful) : s.gapEnds.usersLawful := by
  unfold State.gapEnds
  split <;> exact h

theorem attached_usersLawful (h : s.usersLawful) : s.attached.usersLawful := by
  unfold State.attached
  split <;> exact h

theorem stick_usersLawful (w : Wires) (h : s.usersLawful) : (s.stick w).usersLawful := by
  have ht := settle_usersLawful h
  unfold State.stick
  generalize s.settle = t at ht
  simp only []
  split
  · split
    · exact abandonAttempt_usersLawful ht
    · exact ht
  · exact h

theorem unstick_usersLawful (h : s.usersLawful) : s.unstick.usersLawful := by
  have ht := settle_usersLawful h
  unfold State.unstick
  generalize s.settle = t at ht
  simp only []
  split
  · exact ht
  · exact h

/-! ### The Timebase -/

theorem beacon_usersLawful (h : s.usersLawful) : s.beacon.usersLawful := by
  unfold State.beacon
  split <;> exact h

theorem windowBoundary_usersLawful (h : s.usersLawful) : s.windowBoundary.usersLawful := by
  unfold State.windowBoundary
  split <;> exact h

theorem boundaryOffers_usersLawful (windowFirst : Bool) (h : s.usersLawful) : (s.boundaryOffers windowFirst).usersLawful := by
  unfold State.boundaryOffers
  split
  · exact beacon_usersLawful (expireWindow_usersLawful (windowBoundary_usersLawful h))
  · exact windowBoundary_usersLawful (beacon_usersLawful h)

theorem switchBack_usersLawful (h : s.usersLawful) : s.switchBack.usersLawful := by
  unfold State.switchBack
  split
  · split <;> exact h
  · exact h

theorem startScan_usersLawful (h : s.usersLawful) : s.startScan.usersLawful := by
  unfold State.startScan
  split
  · exact h
  · exact continueScan_usersLawful (s := { s with scan := _ }) h

theorem boundary_usersLawful (windowFirst : Bool) (h : s.usersLawful) : (s.boundary windowFirst).usersLawful := by
  have ht := settle_usersLawful h
  unfold State.boundary
  generalize s.settle = t at ht
  have hb : t.advanceFrame.switchBack.usersLawful := switchBack_usersLawful (s := t.advanceFrame) ht
  generalize t.advanceFrame.switchBack = u at hb
  have ho : (u.agePeers.boundaryOffers windowFirst).usersLawful := boundaryOffers_usersLawful (s := u.agePeers) windowFirst hb
  exact startScan_usersLawful (s := (u.agePeers.boundaryOffers windowFirst).tickCatalogue.tickJobs) ho

theorem frameExpiry_usersLawful (windowFirst : Bool) (h : s.usersLawful) : (s.frameExpiry windowFirst).usersLawful := by
  unfold State.frameExpiry
  split
  · exact h
  · exact boundary_usersLawful windowFirst h

theorem fallBack_usersLawful (count : Nat) (h : s.usersLawful) : (s.fallBack count).usersLawful := h

theorem loseReference_usersLawful (count : Nat) (windowFirst : Bool) (h : s.usersLawful) :
    (s.loseReference count windowFirst).usersLawful := by
  have ht : (s.settle.fallBack count).usersLawful := fallBack_usersLawful count (settle_usersLawful h)
  unfold State.loseReference
  split
  · simp only []
    split
    · exact boundary_usersLawful windowFirst ht
    · exact ht
  · exact h

theorem referenceAbsent_usersLawful (h : s.usersLawful) : s.referenceAbsent.usersLawful := by
  unfold State.referenceAbsent
  split <;> exact h

theorem timebaseRetry_usersLawful (h : s.usersLawful) : (timebaseRetry s).1.usersLawful := by
  unfold timebaseRetry
  split <;> exact h

/-! ### The station's own commands -/

/-- Before CONFIGURE no record stands, so none is judged by other settings (R23, R189). -/
theorem accept_usersLawful (c : Settings) (hr : s.link.running = false) (h : s.usersLawful) : (s.accept c).usersLawful := by
  have hu : s.users = [] := (h.2.2 hr).1
  have ha : (s.accept c).users = [] ∧ (s.accept c).link.running = true := by
    unfold State.accept
    simp only []
    split <;> exact ⟨hu, rfl⟩
  rw [usersLawful_iff, ha.1, ha.2]
  exact ⟨⟨by simp, by simp⟩, by simp⟩

theorem configure_usersLawful (c : Settings) (h : s.usersLawful) : (configure c s).1.usersLawful := by
  unfold configure
  split
  · exact h
  · rename_i hr
    split
    · exact accept_usersLawful c (by simpa using hr) h
    · exact h

/-- The clients that RESTART adds to class 1 are its releases (R146). -/
theorem request_not_mem_restartClients : Client.request ∉ s.restartClients := by
  unfold State.restartClients
  simp

theorem restartReactions_usersLawful (h : s.usersLawful) : s.restartReactions.usersLawful := by
  have hg := returnGrants_usersLawful h
  unfold State.restartReactions
  generalize s.returnGrants = t at hg
  refine hg.withClass1 fun hm => ?_
  rcases List.mem_append.1 hm with hm | hm
  · exact hm
  · exact absurd hm request_not_mem_restartClients

theorem takeRestart_usersLawful (h : s.usersLawful) : s.takeRestart.usersLawful := by
  have hr := restartReactions_usersLawful (settle_usersLawful h)
  unfold State.takeRestart
  generalize s.settle = t at hr
  exact finishRestart_usersLawful (hr.withLink rfl)

theorem handOver_usersLawful (r : Request) (hr : s.link.running = true ∨ r.takenUnconfigured = true) (h : s.usersLawful) :
    (handOver r s).usersLawful := by
  cases r with
  | nop => exact h
  | configure c => exact takeAtOnce_usersLawful _ (fun _ => configure_usersLawful c) h
  | restart => exact takeRestart_usersLawful h
  | stationQuery => exact takeAtOnce_usersLawful _ (fun _ ht => ht) h
  | readCause => exact takeAtOnce_usersLawful _ (fun _ ht => ht) h
  | timebaseRetry => exact takeAtOnce_usersLawful _ (fun _ => timebaseRetry_usersLawful) h
  | access a => exact takeAccess_usersLawful a (hr.resolve_right (by simp [Request.takenUnconfigured])) h
  | peerQuery st => exact takeAtOnce_usersLawful _ (fun _ => peerQuery_usersLawful st) h
  | peerDrop st => exact takeAtOnce_usersLawful _ (fun _ => peerDrop_usersLawful st) h
  | digestHold => exact takeAtOnce_usersLawful _ (fun _ ht => ht) h
  | digestResume => exact takeAtOnce_usersLawful _ (fun _ => digestResume_usersLawful) h
  | snapTake => exact takeAtOnce_usersLawful _ (fun _ => snapTake_usersLawful) h
  | snapReady e => exact takeAtOnce_usersLawful _ (fun _ => snapReady_usersLawful e) h
  | snapQuery e m => exact takeAtOnce_usersLawful _ (fun _ ht => ht) h
  | snapExpire e d => exact takeAtOnce_usersLawful _ (fun _ => snapExpire_usersLawful e d) h
  | dupExtent e t n => exact takeAtOnce_usersLawful _ (fun _ => dupExtent_usersLawful e t n) h
  | dupEnd e => exact takeAtOnce_usersLawful _ (fun _ => dupEnd_usersLawful e) h
  | dupHalt => exact takeAtOnce_usersLawful _ (fun _ => dupHalt_usersLawful) h
  | windowOpen => exact takeAtOnce_usersLawful _ (fun _ => windowOpen_usersLawful) h
  | windowClose => exact takeAtOnce_usersLawful _ (fun _ => windowClose_usersLawful) h
  | grantTake => exact takeAtOnce_usersLawful _ (fun _ => grantTake_usersLawful) h
  | grantDone x f => exact takeAtOnce_usersLawful _ (fun _ => grantDone_usersLawful x f) h
  | dupQuery => exact takeAtOnce_usersLawful _ (fun _ ht => ht) h

/-- The transaction of a request hands that request over (R183). -/
theorem endWith_usersLawful (r : Request) (h : s.usersLawful) : (s.endWith r (handOver r)).usersLawful :=
  endTransaction_usersLawful (.request r) false (take := handOver) (fun r _ => handOver_usersLawful r) h

/-- After power-on there is no record and no client (R23). -/
theorem powerOn_usersLawful (low : Bool) (st : Station) (ref : Bool) : (State.powerOn low st ref).usersLawful :=
  usersLawful_iff.2 ⟨⟨List.Pairwise.nil, fun _ hu => absurd hu List.not_mem_nil⟩, fun _ => ⟨rfl, List.not_mem_nil⟩⟩

theorem releaseReset_usersLawful (straps : Station) (h : s.usersLawful) : (s.releaseReset straps).usersLawful := by
  unfold State.releaseReset
  split <;> exact h

theorem startTransaction_usersLawful (h : s.usersLawful) : s.startTransaction.usersLawful := by
  unfold State.startTransaction
  split
  · exact h
  · split
    · exact h
    · exact h.withLink (start_running _)

/-! ### Every step -/

/-- A command that ends a transaction with its request. -/
theorem exec_request_usersLawful (r : Request) (h : s.usersLawful) : ∃ t, exec r.command s = .next t ∧ t.usersLawful :=
  ⟨_, exec_command s r, endWith_usersLawful r h⟩

/-- A command that serves a waiting access. -/
theorem exec_access_usersLawful (a : Access) (h : s.usersLawful) : ∃ t, exec a.command s = .next t ∧ t.usersLawful := by
  cases a with
  | charge n k => exact ⟨_, rfl, accessRequest_usersLawful _ (fun _ _ => chargeAccess_usersLawful n k) h⟩
  | credit n k => exact ⟨_, rfl, accessRequest_usersLawful _ (fun _ _ => creditAccess_usersLawful n k) h⟩
  | userLoad n soft hard live => exact ⟨_, rfl, accessRequest_usersLawful _ (fun _ => userLoadAccess_usersLawful n soft hard live) h⟩
  | userLimits n soft hard => exact ⟨_, rfl, accessRequest_usersLawful _ (fun _ _ => userLimitsAccess_usersLawful n soft hard) h⟩
  | userFreeze n => exact ⟨_, rfl, accessRequest_usersLawful _ (fun _ _ => userFreezeAccess_usersLawful n) h⟩
  | userThaw n => exact ⟨_, rfl, accessRequest_usersLawful _ (fun _ _ => userThawAccess_usersLawful n) h⟩
  | userRetire n => exact ⟨_, rfl, accessRequest_usersLawful _ (fun _ _ => userRetireAccess_usersLawful n) h⟩
  | userQuery n => exact ⟨_, rfl, accessRequest_usersLawful _ (fun _ _ => userQueryAccess_usersLawful n) h⟩
  | userResync n => exact ⟨_, rfl, accessRequest_usersLawful _ (fun _ _ => userResyncAccess_usersLawful n) h⟩
  | userWatch n => exact ⟨_, rfl, accessRequest_usersLawful _ (fun _ _ => userWatchAccess_usersLawful n) h⟩
  | userUnwatch n => exact ⟨_, rfl, accessRequest_usersLawful _ (fun _ _ => userUnwatchAccess_usersLawful n) h⟩
  | hold n e k => exact ⟨_, rfl, accessRequest_usersLawful _ (fun _ _ => holdAccess_usersLawful n e k) h⟩
  | restoreBegin n e k => exact ⟨_, rfl, accessRequest_usersLawful _ (fun _ _ => restoreBeginAccess_usersLawful n e k) h⟩
  | restoreProgress x k => exact ⟨_, rfl, accessRequest_usersLawful _ (fun _ _ => restoreProgressAccess_usersLawful x k) h⟩
  | restoreEnd x => exact ⟨_, rfl, accessRequest_usersLawful _ (fun _ _ => restoreEndAccess_usersLawful x) h⟩

/-- Every command keeps the user records lawful. -/
theorem exec_usersLawful (c : Instr) (h : s.usersLawful) : ∃ t, exec c s = .next t ∧ t.usersLawful := by
  cases c with
  -- Power, RESET and the edges of a transaction.
  | powerOn refclk => exact ⟨_, rfl, powerOn_usersLawful true 0 refclk⟩
  | resetPinAssert => exact ⟨_, rfl, powerOn_usersLawful true s.station s.tb.refPresent⟩
  | resetPinRelease straps => exact ⟨_, rfl, releaseReset_usersLawful straps h⟩
  | transactionStart => exact ⟨_, rfl, startTransaction_usersLawful h⟩
  | replyDelivered =>
    refine ⟨_, rfl, ?_⟩
    split
    · exact h
    · exact h.withLink (deliver_running _)
  | linkTransactionOther edges ldi =>
    exact ⟨_, rfl, endTransaction_usersLawful _ _ (fun r _ => handOver_usersLawful r) h⟩
  -- The requests.
  | localRequestTaken a => exact exec_request_usersLawful (.access a) h
  | nop => exact exec_request_usersLawful .nop h
  | configure c => exact exec_request_usersLawful (.configure c) h
  | restart => exact exec_request_usersLawful .restart h
  | stationQuery => exact exec_request_usersLawful .stationQuery h
  | readCause => exact exec_request_usersLawful .readCause h
  | timebaseRetry => exact exec_request_usersLawful .timebaseRetry h
  | peerQuery st => exact exec_request_usersLawful (.peerQuery st) h
  | peerDrop st => exact exec_request_usersLawful (.peerDrop st) h
  | digestHold => exact exec_request_usersLawful .digestHold h
  | digestResume => exact exec_request_usersLawful .digestResume h
  | snapTake => exact exec_request_usersLawful .snapTake h
  | snapReady e => exact exec_request_usersLawful (.snapReady e) h
  | snapQuery e m => exact exec_request_usersLawful (.snapQuery e m) h
  | snapExpire e d => exact exec_request_usersLawful (.snapExpire e d) h
  | dupExtent e t n => exact exec_request_usersLawful (.dupExtent e t n) h
  | dupEnd e => exact exec_request_usersLawful (.dupEnd e) h
  | dupHalt => exact exec_request_usersLawful .dupHalt h
  | windowOpen => exact exec_request_usersLawful .windowOpen h
  | windowClose => exact exec_request_usersLawful .windowClose h
  | grantTake => exact exec_request_usersLawful .grantTake h
  | grantDone x f => exact exec_request_usersLawful (.grantDone x f) h
  | dupQuery => exact exec_request_usersLawful .dupQuery h
  -- The accesses of waiting requests, and the other clients of class 1.
  | charge n k => exact exec_access_usersLawful (.charge n k) h
  | credit n k => exact exec_access_usersLawful (.credit n k) h
  | userLoad n soft hard live => exact exec_access_usersLawful (.userLoad n soft hard live) h
  | userLimits n soft hard => exact exec_access_usersLawful (.userLimits n soft hard) h
  | userFreeze n => exact exec_access_usersLawful (.userFreeze n) h
  | userThaw n => exact exec_access_usersLawful (.userThaw n) h
  | userRetire n => exact exec_access_usersLawful (.userRetire n) h
  | userQuery n => exact exec_access_usersLawful (.userQuery n) h
  | userResync n => exact exec_access_usersLawful (.userResync n) h
  | userWatch n => exact exec_access_usersLawful (.userWatch n) h
  | userUnwatch n => exact exec_access_usersLawful (.userUnwatch n) h
  | hold n e k => exact exec_access_usersLawful (.hold n e k) h
  | restoreBegin n e k => exact exec_access_usersLawful (.restoreBegin n e k) h
  | restoreProgress x k => exact exec_access_usersLawful (.restoreProgress x k) h
  | restoreEnd x => exact exec_access_usersLawful (.restoreEnd x) h
  | idleTimeoutRelease => exact ⟨_, rfl, serveIdleRelease_usersLawful h⟩
  | restartRelease => exact ⟨_, rfl, serveRestartRelease_usersLawful h⟩
  -- Frame boundaries, and what follows them.
  | frameBoundary windowFirst => exact ⟨_, rfl, frameExpiry_usersLawful windowFirst h⟩
  | peerGoneAge st => exact ⟨_, rfl, agePeer_usersLawful st h⟩
  | askTimerExpiry => exact ⟨_, rfl, expireAsk_usersLawful h⟩
  | closeTimerExpiry e => exact ⟨_, rfl, expireClose_usersLawful e h⟩
  | idleLimitReached slot =>
    refine ⟨_, rfl, ?_⟩
    split
    · exact offerRelease_usersLawful slot h
    · exact h
  | windowLimitExpiry => exact ⟨_, rfl, expireWindow_usersLawful h⟩
  | gapTimerReached => exact ⟨_, rfl, reachGap_usersLawful h⟩
  | referenceFallback count windowFirst => exact ⟨_, rfl, loseReference_usersLawful count windowFirst h⟩
  | referenceEdgeReturns => exact ⟨_, rfl, h⟩
  | referenceMonitorAbsent => exact ⟨_, rfl, referenceAbsent_usersLawful h⟩
  -- The scans and the sweeps.
  | graceScanVisit => exact ⟨_, rfl, serveScanVisit_usersLawful h⟩
  | digestSweepVisit => exact ⟨_, rfl, serveDigestVisit_usersLawful h⟩
  | expirySweepStep => exact ⟨_, rfl, serveExpiryStep_usersLawful h⟩
  | dropSweepStep => exact ⟨_, rfl, serveDropStep_usersLawful h⟩
  -- The receipts.
  | usageReceipt => exact ⟨_, rfl, serveUsage_usersLawful h⟩
  | epochProposeReceipt => exact ⟨_, rfl, receive_usersLawful _ (fun st e _ => receiveProposal_usersLawful st e) h⟩
  | epochReadyReceipt => exact ⟨_, rfl, receive_usersLawful _ (fun st e _ => receiveReady_usersLawful st e) h⟩
  | epochLatestReceipt => exact ⟨_, rfl, receive_usersLawful _ (fun _ l _ => hearLatest_usersLawful l) h⟩
  | shareReceipt => exact ⟨_, rfl, receive_usersLawful _ (fun _ _ _ ht => ht) h⟩
  | presenceReceipt => exact ⟨_, rfl, receive_usersLawful _ (fun st l _ => receivePresence_usersLawful st l) h⟩
  -- The Peer Line.
  | noticeSendStart => exact ⟨_, rfl, startSending_usersLawful h⟩
  | arbitrationLost bit => exact ⟨_, rfl, loseArbitration_usersLawful bit h⟩
  | stationNumberClash bit => exact ⟨_, rfl, meetClash_usersLawful bit h⟩
  | sendAttemptEnd slotA slotR => exact ⟨_, rfl, endAttempt_usersLawful slotA slotR h⟩
  | retiringRecordFreed n => exact ⟨_, rfl, freeRetired_usersLawful n h⟩
  | reportDueAfterLoss n => exact ⟨_, rfl, dueAfterLoss_usersLawful n h⟩
  | noticeVerdict frame => exact ⟨_, rfl, judgeFrame_usersLawful frame h⟩
  | stretchTimeout => exact ⟨_, rfl, stretchLimit_usersLawful h⟩
  | stretchEntryFreed => exact ⟨_, rfl, takeStretched_usersLawful h⟩
  | noticeAvailable served => exact ⟨_, rfl, frameStops_usersLawful served h⟩
  | frameBroken how => exact ⟨_, rfl, breakFrame_usersLawful how h⟩
  | strayClocking => exact ⟨_, rfl, strayFall_usersLawful h⟩
  | busyTimeout => exact ⟨_, rfl, busyEnds_usersLawful h⟩
  | idleGapEnd => exact ⟨_, rfl, gapEnds_usersLawful h⟩
  | attachmentEnd => exact ⟨_, rfl, attached_usersLawful h⟩
  | lineStuck wires => exact ⟨_, rfl, stick_usersLawful wires h⟩
  | lineRestored => exact ⟨_, rfl, unstick_usersLawful h⟩
  | anotherStationStart => exact ⟨_, rfl, anotherStart_usersLawful h⟩
  | attemptAbandoned byStart => exact ⟨_, rfl, meetChange_usersLawful byStart h⟩

/-- Settles O57: the law holds of the machine with the queue's rest, and the command at the front keeps it. -/
theorem everyStepKeepsUserRecordsLawful : Obligations.EveryStepKeepsUserRecordsLawful := by
  intro s t h ht
  unfold step at ht
  split at ht
  · cases ht
    exact h
  · rename_i c rest hp
    obtain ⟨u, hu, hl⟩ := exec_usersLawful (s := { s with pending := rest }) c h
    rw [hu] at ht
    cases ht
    exact hl

end Sys2Proof.Machine
end

section
/-! PROOFS. The grace scan's visits (R18, R19). -/

namespace Sys2Proof.Machine

variable {s : State}

/-- A visit is served when the scan runs and no client of classes 1 to 3 waits (R14). -/
theorem exec_graceScanVisit (hf : s.settle.freeForClass4 = true) (hr : s.scan.running = true) :
    exec .graceScanVisit s = .next s.settle.scanVisit := by
  have he : exec .graceScanVisit s = .next s.serveScanVisit := rfl
  have hs : s.serveScanVisit = s.settle.scanVisit := by simp [State.serveScanVisit, hf, hr]
  rw [he, hs]

/-- What a visit to a record makes of the scan: the cursor moves up to it while a record lies above; else the scan ends, or starts again for
a boundary owed (R18). -/
def GraceScan.visited (user : Nat) (more : Bool) (g : GraceScan) : GraceScan :=
  if more then { g with cursor := some user }
  else if g.owed = 0 then { running := false, cursor := some user, owed := 0 }
  else { running := true, cursor := none, owed := g.owed - 1 }

/-- Whether a record lies above a position depends on the user numbers alone (R17). -/
theorem isSome_find_above (p : Option Nat) (l : List UserRec) :
    (l.find? fun r => above p r.user).isSome = (l.map UserRec.user).any (above p) := by
  rw [Bool.eq_iff_iff]
  simp

/-- A visit leaves the scan's own fields to what follows its end. -/
@[simp] theorem visitGrace_scan (u : UserRec) : (s.visitGrace u).scan = s.scan := by
  unfold State.visitGrace
  split <;> rfl

/-- A visit leaves the user numbers of the table. -/
@[simp] theorem visitGrace_users (u : UserRec) : (s.visitGrace u).users.map UserRec.user = s.users.map UserRec.user := by
  unfold State.visitGrace
  split
  · exact putUser_users _ _
  · exact putUser_users _ _
  all_goals rfl

/-- At the end of a visit the scan of a table that is not empty goes on as `GraceScan.visited` says (R18). -/
theorem continueScan_visited (t : State) (user : Nat) (hu : t.users ≠ []) :
    ({ t with scan := { t.scan with cursor := some user } } : State).continueScan =
      { t with scan := t.scan.visited user (t.users.find? fun r => above (some user) r.user).isSome } := by
  unfold State.continueScan State.nextUser GraceScan.visited
  cases t.users.find? fun r => above (some user) r.user with
  | some r => simp
  | none => by_cases ho : t.scan.owed = 0 <;> simp [State.endScan, ho, hu]

/-- A visit to a record changes the record as its state says, and the scan as `GraceScan.visited` says (R19). -/
theorem scanVisit_found {u : UserRec} (hu : s.nextUser s.scan.cursor = some u) :
    s.scanVisit =
      { s.visitGrace u with scan := s.scan.visited u.user (s.users.find? fun r => above (some u.user) r.user).isSome } := by
  have hne : (s.visitGrace u).users ≠ [] := by
    have hm : u.user ∈ (s.visitGrace u).users.map UserRec.user := by
      rw [visitGrace_users]
      exact List.mem_map_of_mem (List.mem_of_find?_eq_some hu)
    rintro hn
    rw [hn] at hm
    exact List.not_mem_nil hm
  unfold State.scanVisit
  rw [hu]
  simp only []
  rw [continueScan_visited _ _ hne, isSome_find_above, visitGrace_users, visitGrace_scan, isSome_find_above]

/-- A visit that finds no record above the cursor ends the scan (R18, log 21). -/
theorem scanVisit_none (hn : s.nextUser s.scan.cursor = none) :
    s.scanVisit = { s with
      scan :=
        if s.scan.owed = 0 then { running := false, cursor := s.scan.cursor, owed := 0 }
        else if s.users = [] then { running := false, cursor := none, owed := 0 }
        else { running := true, cursor := none, owed := s.scan.owed - 1 } } := by
  unfold State.scanVisit
  rw [hn]
  by_cases ho : s.scan.owed = 0
  · simp [State.endScan, ho]
  · by_cases hu : s.users = [] <;> simp [State.endScan, ho, hu]

/-- The record lapses with GRACE_EXPIRED, and then WATCH for a watched user (R19, R15, R21). -/
theorem visitGrace_lapses {u : UserRec} (hg : u.state = .grace 0) :
    s.visitGrace u = { s with
      users := putUser { u with state := .lapsed } s.users
      causes :=
        if u.user ∈ s.watch then
          raiseIn s.tb.frame { kind := .watch, subject := .user u.user, value := some (.userState .lapsed) }
            (raiseIn s.tb.frame { kind := .graceExpired, subject := .user u.user, value := none } s.causes)
        else raiseIn s.tb.frame { kind := .graceExpired, subject := .user u.user, value := none } s.causes } := by
  unfold State.visitGrace
  rw [hg]
  by_cases hw : u.user ∈ s.watch <;> simp [State.putState, watchCause, hg, hw, UserState.code, State.raise]

/-- Grace remaining falls by one frame (R19). -/
theorem visitGrace_counts {u : UserRec} {n : Nat} (hg : u.state = .grace (n + 1)) :
    s.visitGrace u = { s with users := putUser { u with state := .grace n } s.users } := by
  unfold State.visitGrace
  rw [hg]

/-- A record in no GRACE is passed (R19). -/
theorem visitGrace_passes {u : UserRec} (hg : ∀ n : Nat, u.state ≠ .grace n) : s.visitGrace u = s := by
  unfold State.visitGrace
  cases hs : u.state with
  | grace n => exact absurd hs (hg n)
  | _ => rfl

/-- Settles O38: the served visit, by the record it finds and that record's state. -/
theorem graceVisitCountsDownAndLapses : Obligations.GraceVisitCountsDownAndLapses := by
  refine ⟨fun s u hf hr hu => ?_, fun s hf hr hn => ?_⟩
  · have hu' : s.settle.nextUser s.settle.scan.cursor = some u := by rw [settle_scan]; exact hu
    have hv := scanVisit_found hu'
    have he := exec_graceScanVisit hf hr
    rw [← settle_scan s, ← settle_tb s]
    generalize s.settle = t at *
    rw [he, hv]
    refine ⟨fun n hg => ?_, fun hg => ?_, fun hg => ?_⟩
    · rw [visitGrace_counts hg]
      rfl
    · rw [visitGrace_lapses hg]
      rfl
    · rw [visitGrace_passes hg]
      rfl
  · have hn' : s.settle.nextUser s.settle.scan.cursor = none := by rw [settle_scan]; exact hn
    have hv := scanVisit_none hn'
    rw [exec_graceScanVisit hf hr, hv, settle_scan]

end Sys2Proof.Machine
end

section
/-! PROOFS. The frame boundary: what each block's count writes (R18, R72 to R74, R83, R110, R111, R141, R160, R173, R174, R177). -/

namespace Sys2Proof.Machine

variable (s : State)

/-! ### What each stage of a boundary writes -/

/-- A switch-back that was pending is pending no more, and is taken when the reference is present (R177). -/
theorem switchBack_tb :
    s.switchBack.tb = { s.tb with
      switchBack := false
      source := if s.tb.switchBack ∧ s.tb.refPresent then .reference else s.tb.source } := by
  unfold State.switchBack
  rcases htb : s.tb with ⟨source, refPresent, pending, timer, frame⟩
  cases pending <;> cases refPresent <;> simp [State.raise, htb]

/-- A pending switch-back fails when the reference is absent (R177). -/
theorem switchBack_causes :
    s.switchBack.causes =
      if s.tb.switchBack = true ∧ s.tb.refPresent = false then
        (s.raise .timebaseFallback (.station s.station) (some (.fallback .retryFailed))).causes
      else s.causes := by
  unfold State.switchBack
  cases hb : s.tb.switchBack <;> cases hp : s.tb.refPresent <;> simp

theorem switchBack_frame : s.switchBack = { s with tb := s.switchBack.tb, causes := s.switchBack.causes } := by
  unfold State.switchBack
  split
  · split <;> rfl
  · rfl

/-- The beacon writes the outbound queue and clears the own-frame flag (R74). -/
theorem beacon_frame : s.beacon = { s with out := s.beacon.out, ownFrame := false } := by
  unfold State.beacon
  split <;> rfl

/-- The Duplication Unit's reaction writes its own part and the outbound queue (R160). -/
theorem windowBoundary_frame : s.windowBoundary = { s with out := s.windowBoundary.out, dup := s.windowBoundary.dup } := by
  unfold State.windowBoundary
  split <;> rfl

/-- A window that has run out: its closing writes WINDOW_CLOSED as well (R157). -/
theorem expireWindow_frame :
    s.expireWindow = { s with out := s.expireWindow.out, dup := s.expireWindow.dup, causes := s.expireWindow.causes } := by
  unfold State.expireWindow
  split <;> rfl

/-- WINDOW_CLOSED with reason LIMIT and tonight's entries carried (R157, R160). -/
theorem expireWindow_causes :
    s.expireWindow.causes =
      if s.dup.window = some 0 then
        raiseIn s.tb.frame
          { kind := .windowClosed, subject := .station s.station, value := some (.window .limit s.dup.tonight.length) } s.causes
      else s.causes := by
  unfold State.expireWindow
  split <;> rfl

/-- The two offers of a boundary write the outbound queue, the Duplication Unit, the own-frame flag and the Cause List (R74, R160). -/
theorem boundaryOffers_frame (windowFirst : Bool) :
    s.boundaryOffers windowFirst = { s with
      out := (s.boundaryOffers windowFirst).out
      dup := (s.boundaryOffers windowFirst).dup
      causes := (s.boundaryOffers windowFirst).causes
      ownFrame := false } := by
  cases windowFirst with
  | true =>
    change s.windowBoundary.expireWindow.beacon = { s with
      out := s.windowBoundary.expireWindow.beacon.out, dup := s.windowBoundary.expireWindow.beacon.dup
      causes := s.windowBoundary.expireWindow.beacon.causes, ownFrame := false }
    rw [beacon_frame, expireWindow_frame, windowBoundary_frame]
  | false =>
    change s.beacon.windowBoundary = { s with
      out := s.beacon.windowBoundary.out, dup := s.beacon.windowBoundary.dup, causes := s.beacon.windowBoundary.causes, ownFrame := false }
    rw [windowBoundary_frame, beacon_frame]

/-- A window with one frame left runs out at the boundary (R160). -/
theorem windowBoundary_runsOut (h : s.dup.window = some 1) :
    s.windowBoundary = { s with dup := { s.dup with window := some 0 } } := by
  unfold State.windowBoundary
  rw [h]

/-- No other window runs out at the boundary (R160). -/
theorem windowBoundary_window (h0 : s.dup.window ≠ some 0) (h1 : s.dup.window ≠ some 1) : s.windowBoundary.dup.window ≠ some 0 := by
  unfold State.windowBoundary
  split
  · rename_i hn
    simp [hn]
  · exact absurd ‹_› h0
  · exact absurd ‹_› h1
  · simp [State.offerShare, Dup.newFrame]

/-- Taken first, the Duplication Unit closes at once a window that runs out, with WINDOW_CLOSED (R160, R157). -/
theorem boundaryOffers_closes (h : s.dup.window = some 1) :
    (s.boundaryOffers true).causes =
      raiseIn s.tb.frame
        { kind := .windowClosed, subject := .station s.station
          value := some (.window .limit (s.dup.queue.filter fun q => q.parity == s.dup.night.getLsbD 0).length) } s.causes := by
  change s.windowBoundary.expireWindow.beacon.causes = _
  rw [beacon_frame, windowBoundary_runsOut s h]
  change State.causes (State.expireWindow _) = _
  rw [expireWindow_causes, if_pos rfl]
  rfl

/-- Otherwise the offers raise no cause. -/
theorem boundaryOffers_quiet {windowFirst : Bool} (h0 : s.dup.window ≠ some 0) (h : s.dup.window ≠ some 1 ∨ windowFirst = false) :
    (s.boundaryOffers windowFirst).causes = s.causes := by
  cases windowFirst with
  | true =>
    have hw := windowBoundary_window s h0 (h.resolve_right (by simp))
    change s.windowBoundary.expireWindow.beacon.causes = _
    rw [beacon_frame]
    change s.windowBoundary.expireWindow.causes = _
    rw [expireWindow_causes, if_neg hw, windowBoundary_frame]
  | false =>
    change s.beacon.windowBoundary.causes = _
    rw [windowBoundary_frame, beacon_frame]

/-- The grace scan owes one more boundary, or starts, and is idle at once over an empty table (R18). -/
theorem startScan_eq :
    s.startScan = { s with
      scan :=
        if s.scan.running then { s.scan with owed := min 255 (s.scan.owed + 1) }
        else { running := !s.users.isEmpty, cursor := none, owed := 0 } } := by
  unfold State.startScan
  split
  · rfl
  · cases hu : s.users with
    | nil => simp [State.continueScan, State.nextUser, State.endScan]
    | cons u us => simp [State.continueScan, State.nextUser, above]

/-! ### The counts of the tables -/

/-- Every entry but the own one ages (R72, R73). -/
theorem agePeers_other {st : Station} (hl : s.peers.length = 16) (h : st ≠ s.station) : s.agePeers.peer st = agedPeer (s.peer st) := by
  have hv : s.station.val ≠ st.val := fun he => h (Fin.ext he.symm)
  have hst : st.val < s.peers.length := by omega
  simp [State.peer, State.agePeers, List.getElem_set_ne hv, hst]

/-- The own entry stands (R68). -/
theorem agePeers_own (hl : s.peers.length = 16) : s.agePeers.peer s.station = s.peer s.station := by
  have hst : s.station.val < s.peers.length := by omega
  simp [State.peer, State.agePeers, List.getD_eq_getElem?_getD, hst]

/-- The peer backlog total sums the backlogs that count (R73). -/
theorem totalBacklog_eq (goneAge : Nat) (l : List PeerEntry) :
    totalBacklog goneAge l =
      ((l.filter fun p =>
        decide (p.state = .present ∧ min 255 (p.framesSince + 1) < goneAge ∧ p.shareAge ≤ 1)).map fun p => p.backlog.getD 0).sum := by
  induction l with
  | nil => rfl
  | cons p ps ih =>
    rw [totalBacklog, ih, List.filter_cons]
    by_cases hp : p.state = .present ∧ min 255 (p.framesSince + 1) < goneAge ∧ p.shareAge ≤ 1
    · have hc : countedBacklog goneAge p = p.backlog := if_pos hp
      rw [hc, if_pos (decide_eq_true hp), List.map_cons, List.sum_cons]
    · have hc : countedBacklog goneAge p = none := if_neg hp
      rw [hc, if_neg (by simpa using hp)]
      exact Nat.zero_add _

/-- An ACTIVE job is idle for one frame more unless its release waits; a FREE slot stands (R141). -/
theorem tickJobs_jobSlot (i : Fin 8) :
    s.tickJobs.jobSlot i = { s.jobSlot i with
      job := (s.jobSlot i).job.map fun j => if j.releaseWaiting then j else { j with idle := j.idle + 1 } } := by
  have hi : s.tickJobs.jobSlot i = idleJob (s.jobSlot i) := List.getD_map s.jobs { gen := 0, job := none } (n := i.val) idleJob
  rw [hi]
  obtain ⟨gen, job⟩ := s.jobSlot i
  cases job with
  | none => rfl
  | some j => by_cases hw : j.releaseWaiting <;> simp [idleJob, hw]

/-! ### The boundary -/

/-- The state in which the offers of a boundary are made: the frame number advanced, the switch-back made, the peer entries aged. -/
def State.atOffers (t : State) : State := t.advanceFrame.switchBack.agePeers

/-- The Timebase after a boundary (R173, R174, R177). -/
theorem atOffers_tb (t : State) :
    t.atOffers.tb = { t.tb with
      timer := 0
      frame := t.tb.frame + 1
      switchBack := false
      source := if t.tb.switchBack ∧ t.tb.refPresent then .reference else t.tb.source } :=
  switchBack_tb t.advanceFrame

/-- RETRY_FAILED carries the new frame number (R177, log 19). -/
theorem atOffers_causes (t : State) :
    t.atOffers.causes =
      if t.tb.switchBack = true ∧ t.tb.refPresent = false then
        (State.raise .timebaseFallback (.station t.station) (some (.fallback .retryFailed))
          { t with tb := { t.tb with frame := t.tb.frame + 1 } }).causes
      else t.causes :=
  switchBack_causes t.advanceFrame

theorem atOffers_frame (t : State) :
    t.atOffers = { t with
      tb := t.atOffers.tb, causes := t.atOffers.causes, peers := t.agePeers.peers, peerTotal := t.agePeers.peerTotal } := by
  unfold State.atOffers
  rw [switchBack_frame]
  rfl

/-- A boundary on the state that what was owed has left: the counts of every block, whole. -/
theorem boundary_eq {t : State} (windowFirst : Bool) (ht : s.settle = t) :
    s.boundary windowFirst = { t with
      tb := t.atOffers.tb
      peers := t.agePeers.peers
      peerTotal := t.agePeers.peerTotal
      cat := t.cat.map tickEntry
      jobs := t.tickJobs.jobs
      scan := t.startScan.scan
      digest := { t.digest with batch := 0 }
      ownFrame := false
      causes := (t.atOffers.boundaryOffers windowFirst).causes
      out := (t.atOffers.boundaryOffers windowFirst).out
      dup := (t.atOffers.boundaryOffers windowFirst).dup } := by
  unfold State.boundary
  rw [ht]
  change ((t.atOffers.boundaryOffers windowFirst).tickCatalogue.tickJobs).startScan.clearBatch = _
  rw [boundaryOffers_frame, startScan_eq, startScan_eq, atOffers_frame]
  rfl

/-- A frame boundary comes unless the source is NONE (R173). -/
theorem exec_frameBoundary (windowFirst : Bool) (h : s.tb.source ≠ .unclocked) :
    exec (.frameBoundary windowFirst) s = .next (s.boundary windowFirst) := by
  have he : exec (.frameBoundary windowFirst) s = .next (s.frameExpiry windowFirst) := rfl
  rw [he, State.frameExpiry, if_neg h]

/-- Settles O52: the next state is `boundary_eq`'s, and each of its parts has a lemma above. -/
theorem boundariesCountEveryBlock : Obligations.BoundariesCountEveryBlock := by
  intro s windowFirst hs
  have hw : s.settle.dup.window ≠ some 0 := settle_window s
  have hx := exec_frameBoundary s windowFirst hs
  rw [← settle_tb s, ← settle_station s, ← settle_settings s]
  generalize ht : s.settle = t at hw ⊢
  rw [boundary_eq s windowFirst ht] at hx
  have h0 : t.atOffers.dup.window ≠ some 0 := by rw [atOffers_frame]; exact hw
  refine ⟨_, hx, atOffers_tb t, fun st h hl => agePeers_other t hl h, agePeers_own t, totalBacklog_eq _ _, rfl, tickJobs_jobSlot t,
    congrArg State.scan (startScan_eq t), rfl, rfl, ⟨fun h => ?_, fun h hf => ?_⟩, rfl⟩
  · have hq : t.atOffers.dup.window ≠ some 1 ∨ windowFirst = false := by rw [atOffers_frame]; exact h
    exact (boundaryOffers_quiet _ h0 hq).trans (atOffers_causes t)
  · have h1 : t.atOffers.dup.window = some 1 := by rw [atOffers_frame]; exact h
    subst hf
    refine (boundaryOffers_closes _ h1).trans ?_
    rw [atOffers_causes, atOffers_tb, atOffers_frame]

end Sys2Proof.Machine
end

section
/-! PROOFS. What a served access answers, and the requests of chapter 2 (R7, R8, R21, R25 to R41). -/

namespace Sys2Proof.Machine

/-! ### A served access (R15, R16, R183) -/

/-- The work of an access, from its grant to what it answers (R183). -/
def accessAnswer : Access → State → Answer
  | .charge user n => chargeAccess user n
  | .credit user n => creditAccess user n
  | .userLoad user soft hard live => userLoadAccess user soft hard live
  | .userLimits user soft hard => userLimitsAccess user soft hard
  | .userFreeze user => userFreezeAccess user
  | .userThaw user => userThawAccess user
  | .userRetire user => userRetireAccess user
  | .userQuery user => userQueryAccess user
  | .userResync user => userResyncAccess user
  | .userWatch user => userWatchAccess user
  | .userUnwatch user => userUnwatchAccess user
  | .hold user e n => holdAccess user e n
  | .restoreBegin user e n => restoreBeginAccess user e n
  | .restoreProgress handle k => restoreProgressAccess handle k
  | .restoreEnd handle => restoreEndAccess handle

/-- The command of an access makes it for the waiting request (R183). -/
theorem exec_access (a : Access) (s : State) : exec a.command s = .next (s.accessRequest a (accessAnswer a)) := by
  cases a <;> rfl

/-- A served access: what it answers in the state of its grant, its reply pending (R16, R183). -/
theorem exec_served {a : Access} {s t : State} {status : Status} {body : ReplyBody} (h : s.served a)
    (hw : accessAnswer a s.granted = (t, status, body)) : exec a.command s = .next (t.replied a s.link.mark status body) := by
  rw [exec_access, accessRequest_served h, hw, settle_link]

/-- The grant takes nothing from the user table. -/
theorem granted_users (s : State) : s.granted.users = s.settle.users := by simp only [State.granted]

@[simp] theorem granted_tb (s : State) : s.granted.tb = s.tb := by simp [State.granted]

section Found

variable {s : State} {user : Nat} {u : UserRec}

/-! ### The records of a table -/

/-- The block of R26 of a record that is present and not RETIRING. -/
theorem userBlock_active (hu : s.findActive user = some u) :
    s.userBlock user = { user := user, state := some u.state, estimate := some (estimate s.settings.heldWeight u) } :=
  userBlock_found (findActive_eq_some.1 hu).1

/-- A record that is present and not RETIRING bears the user number asked for. -/
theorem findActive_user (hu : s.findActive user = some u) : u.user = user := findUser_user (findActive_eq_some.1 hu).1

/-- A user with no record is found once its record has been inserted (R1, R17). -/
theorem find_insertUser {l : List UserRec} (h : l.find? (fun r => r.user == u.user) = none) :
    (insertUser u l).find? (fun r => r.user == u.user) = some u := by
  induction l with
  | nil => simp [insertUser]
  | cons x xs ih =>
    have hx : x.user ≠ u.user := by
      intro he
      simp [he] at h
    have hxs : xs.find? (fun r => r.user == u.user) = none := by simpa [hx] using h
    by_cases hlt : u.user < x.user
    · simp [insertUser, hlt]
    · simp [insertUser, hlt, hx, ih hxs]

/-- After a change of its state the record is found with the state it changed to (R21). -/
theorem putState_findUser (x : UserState) (hu : s.findUser user = some u) :
    (s.putState u x).findUser user = some { u with state := x } := by
  have huser : u.user = user := findUser_user hu
  have hsome : (s.users.find? fun r => r.user == user).isSome = true := Option.isSome_of_eq_some hu
  unfold State.findUser State.putState
  rw [find_putUser, if_pos ⟨huser, hsome⟩]

/-- The block of R26 after a change of state: the estimate is what it was (R6, R26). -/
theorem putState_userBlock (x : UserState) (hu : s.findActive user = some u) :
    (s.putState u x).userBlock user = { user := user, state := some x, estimate := some (estimate s.settings.heldWeight u) } :=
  userBlock_found (putState_findUser x (findActive_eq_some.1 hu).1)

/-! ### CHARGE and CREDIT (R27, R28) -/

theorem admits_iff {x : Status} : x.admits = true ↔ x = .ok ∨ x = .okSoft := decide_eq_true_iff

/-- An admitted CHARGE (R27). -/
theorem chargeAccess_admitted {n : Nat} (h0 : user ≠ 0) (hn : n ≠ 0) (hu : s.findActive user = some u)
    (ha : (admission s.settings.heldWeight n false u).admits = true) :
    let t := s.commit u { u with live := u.live + n }
    chargeAccess user n s =
      (t, admission s.settings.heldWeight n false u, .charge (t.userBlock user) (some (estimate s.settings.heldWeight u + n))) := by
  unfold chargeAccess
  rw [if_neg hn, withUser_found h0 hu]
  simp only [ha, if_true]
  rfl

/-- A refused CHARGE changes nothing (R27). -/
theorem chargeAccess_refused {n : Nat} (h0 : user ≠ 0) (hn : n ≠ 0) (hu : s.findActive user = some u)
    (ha : ¬ (admission s.settings.heldWeight n false u).admits = true) :
    chargeAccess user n s =
      (s, admission s.settings.heldWeight n false u, .charge (s.userBlock user) (some (estimate s.settings.heldWeight u + n))) := by
  unfold chargeAccess
  rw [if_neg hn, withUser_found h0 hu]
  simp only [ha]
  rfl

/-- CREDIT of a record that is found: live falls by n or to 0, and the reply carries the AU removed (R28). -/
theorem creditAccess_found {n : Nat} (h0 : user ≠ 0) (hn : n ≠ 0) (hr : n ≤ Config.maxAU) (hu : s.findActive user = some u) :
    let t := s.commit u { u with live := u.live - n }
    creditAccess user n s = (t, if n ≤ u.live then .ok else .okClamped, .credit (t.userBlock user) (min n u.live)) := by
  unfold creditAccess
  rw [if_neg (by simp [h0, hn]), if_neg (Nat.not_lt.2 hr), withUser_found h0 hu]

/-! ### USER-LOAD (R29, R30) -/

/-- The estimate of a record with live space alone is that space (R6). -/
theorem estimate_live {w : Nat} (hh : u.held = 0) (hr : u.reserved = 0) (hm : u.remote = []) (hs : u.spill = 0)
    (hl : u.live ≤ Config.maxAU) : estimate w u = u.live := by
  obtain ⟨hown, hrem, hest⟩ := estimate_sums w u
  have hlive : u.live ≤ 268435455 := hl
  have hheld : weightedHeld w u.held = 0 := by simp [weightedHeld, hh]
  have hunits : (u.remote.map RemoteEntry.units).sum = 0 := by simp [hm]
  omega

/-- The record that USER-LOAD creates (R30). -/
def loadedUser (g user soft hard live : Nat) : UserRec :=
  { user := user, state := if live ≤ min soft hard then .under else .grace g, soft := min soft hard, hard := hard, live := live
    held := 0, reserved := 0, reported := 0, reportDue := decide (0 < live), remote := [], spill := 0 }

/-- The re-evaluation of R30 finds UNDER or GRACE as the live space stands to the soft limit. -/
theorem newUser_eq (w g soft hard : Nat) {live : Nat} (hl : live ≤ Config.maxAU) :
    newUser w g user soft hard live = loadedUser g user soft hard live := by
  have he : ∀ x due, estimate w { user := user, state := x, soft := min soft hard, hard := hard, live := live, held := 0, reserved := 0
                                  reported := 0, reportDue := due, remote := [], spill := 0 } = live :=
    fun x due => estimate_live rfl rfl rfl rfl hl
  unfold newUser loadedUser
  by_cases hs : live ≤ min soft hard
  · rw [reevaluate_below (by rw [he]; exact hs) (by simp) (by simp), if_pos hs]
  · rw [reevaluate_above (by rw [he]; exact Nat.lt_of_not_le hs), if_neg hs, if_pos rfl]

/-- The user number and the three figures of USER-LOAD in their ranges: the record that is found, or the place that is free, decides
(R25, R29). -/
theorem userLoadAccess_checked {soft hard live : Nat} (h0 : user ≠ 0) (hs : soft ≤ Config.maxAU) (hh : hard ≤ Config.maxAU)
    (hl : live ≤ Config.maxAU) :
    (∀ r : UserRec, s.findUser user = some r → r.state = .retiring →
      userLoadAccess user soft hard live s = (s, .busy, .user (noUser user))) ∧
    (∀ r : UserRec, s.findUser user = some r → r.state ≠ .retiring →
      userLoadAccess user soft hard live s = (s, .existsAlready, .user (s.userBlock user))) ∧
    (s.findUser user = none → s.settings.userRecords ≤ s.users.length →
      userLoadAccess user soft hard live s = (s, .tableFull, .user (noUser user))) := by
  have hrange : ¬ (Config.maxAU < soft ∨ Config.maxAU < hard ∨ Config.maxAU < live) := by omega
  unfold userLoadAccess
  rw [if_neg h0, if_neg hrange]
  refine ⟨fun r hr hx => ?_, fun r hr hx => ?_, fun hn hfull => ?_⟩
  · rw [hr]
    exact if_pos hx
  · rw [hr]
    exact if_neg hx
  · rw [hn]
    exact if_pos hfull

/-- USER-LOAD of a user without a record, with a place free (R30). -/
theorem userLoadAccess_creates {soft hard live : Nat} (h0 : user ≠ 0) (hs : soft ≤ Config.maxAU) (hh : hard ≤ Config.maxAU)
    (hl : live ≤ Config.maxAU) (hn : s.findUser user = none) (hroom : s.users.length < s.settings.userRecords) :
    let record := loadedUser s.settings.grace user soft hard live
    userLoadAccess user soft hard live s =
      ({ s with
          users := insertUser record s.users
          digest := { s.digest with quiet := if 0 < live then 0 else s.digest.quiet } },
        if hard < soft then .okClamped else .ok,
        .user { user := user, state := some record.state, estimate := some live }) := by
  intro record
  have hrange : ¬ (Config.maxAU < soft ∨ Config.maxAU < hard ∨ Config.maxAU < live) := by omega
  have hdigest : (if 0 < live then s.digest.wake else s.digest) =
      { s.digest with quiet := if 0 < live then 0 else s.digest.quiet } := by
    by_cases hlive : 0 < live <;> simp [hlive, Digest.wake]
  have hfound : ∀ d : Digest, ({ s with users := insertUser record s.users, digest := d } : State).findUser user = some record :=
    fun _ => find_insertUser (u := record) hn
  have hest : estimate s.settings.heldWeight record = live := estimate_live rfl rfl rfl rfl hl
  unfold userLoadAccess
  rw [if_neg h0, if_neg hrange, hn]
  simp only [if_neg (Nat.not_le.2 hroom), newUser_eq _ _ _ _ hl, hdigest]
  rw [userBlock_found (hfound _)]
  exact congrArg (fun n => (_, _, ReplyBody.user { user := user, state := some record.state, estimate := some n })) hest

/-! ### USER-LIMITS and USER-RESYNC (R31, R39) -/

/-- USER-LIMITS of a record that is found (R31). -/
theorem userLimitsAccess_found {soft hard : Nat} (h0 : user ≠ 0) (hs : soft ≤ Config.maxAU) (hh : hard ≤ Config.maxAU)
    (hu : s.findActive user = some u) :
    let t := s.commit u { u with soft := min soft hard, hard := hard }
    userLimitsAccess user soft hard s = (t, if hard < soft then .okClamped else .ok, .user (t.userBlock user)) := by
  have hrange : ¬ (Config.maxAU < soft ∨ Config.maxAU < hard) := by omega
  unfold userLimitsAccess
  rw [if_neg h0, if_neg hrange, withUser_found h0 hu]

/-- USER-RESYNC of a record that is found (R39). -/
theorem userResyncAccess_found (h0 : user ≠ 0) (hu : s.findActive user = some u) :
    let t := (s.commit u { u with spill := 0 }).setDue user
    userResyncAccess user s = (t, .ok, .user (t.userBlock user)) :=
  withUser_found h0 hu

/-! ### USER-FREEZE and USER-THAW (R32, R33) -/

/-- A change of state, with the WATCH cause of a watched user (R21), whole. -/
theorem putState_eq (x : UserState) (hu : u.user = user) :
    s.putState u x = { s with
      users := putUser { u with state := x } s.users
      causes :=
        if u.state.code ≠ x.code ∧ user ∈ s.watch then
          raiseIn s.tb.frame { kind := .watch, subject := .user user, value := some (.userState x) } s.causes
        else s.causes } := by
  subst hu
  rfl

/-- USER-FREEZE of a record that is found tells the former state (R32). -/
theorem userFreezeAccess_found (h0 : user ≠ 0) (hu : s.findActive user = some u) :
    userFreezeAccess user s =
      (s.putState u .frozen, .ok,
        .userFreeze { user := user, state := some .frozen, estimate := some (estimate s.settings.heldWeight u) } (some u.state)) := by
  unfold userFreezeAccess
  rw [withUser_found h0 hu]
  simp only [putState_userBlock _ hu]

/-- USER-THAW of a FROZEN record: `x` is UNDER or LAPSED by the estimate (R33). -/
theorem userThawAccess_frozen {x : UserState} (h0 : user ≠ 0) (hu : s.findActive user = some u) (hf : u.state = .frozen)
    (hx : (if estimate s.settings.heldWeight u ≤ u.soft then UserState.under else .lapsed) = x) :
    userThawAccess user s =
      (s.putState u x, .ok,
        .user { user := user, state := some x, estimate := some (estimate s.settings.heldWeight u) }) := by
  unfold userThawAccess
  rw [withUser_found h0 hu]
  simp only [hf, if_true, hx, putState_userBlock _ hu]

/-- USER-THAW of a record that is not FROZEN (R33). -/
theorem userThawAccess_other (h0 : user ≠ 0) (hu : s.findActive user = some u) (hf : u.state ≠ .frozen) :
    userThawAccess user s =
      (s, .wrongState, .user { user := user, state := some u.state, estimate := some (estimate s.settings.heldWeight u) }) := by
  unfold userThawAccess
  rw [withUser_found h0 hu, ← userBlock_active hu]
  exact if_neg hf

/-! ### USER-QUERY, USER-WATCH and USER-UNWATCH (R38, R40, R41) -/

/-- USER-QUERY of a record that is found (R38). -/
theorem userQueryAccess_found (h0 : user ≠ 0) (hu : s.findActive user = some u) :
    userQueryAccess user s =
      (s, .ok, .userQuery { user := user, state := some u.state, estimate := some (estimate s.settings.heldWeight u) } (some (s.report u))) := by
  unfold userQueryAccess
  rw [withUser_found h0 hu, userBlock_active hu]

/-- USER-WATCH of a record that is found (R40). -/
theorem userWatchAccess_found (h0 : user ≠ 0) (hu : s.findActive user = some u) :
    let block : UserBlock := { user := user, state := some u.state, estimate := some (estimate s.settings.heldWeight u) }
    (user ∈ s.watch → userWatchAccess user s = (s, .ok, .userWatch block true s.watch.length)) ∧
    (user ∉ s.watch → s.watch.length < Config.watchSlots →
      userWatchAccess user s = ({ s with watch := s.watch ++ [user] }, .ok, .userWatch block false (s.watch.length + 1))) ∧
    (user ∉ s.watch → Config.watchSlots ≤ s.watch.length →
      userWatchAccess user s = (s, .watchFull, .userWatch block false s.watch.length)) := by
  intro block
  unfold userWatchAccess
  rw [withUser_found h0 hu, userBlock_active hu]
  refine ⟨fun hm => if_pos hm, fun hm hroom => ?_, fun hm hfull => ?_⟩
  · rw [if_neg hm, if_pos hroom]
  · rw [if_neg hm, if_neg (Nat.not_lt.2 hfull)]

/-- USER-UNWATCH of a record that is found (R41). -/
theorem userUnwatchAccess_found (h0 : user ≠ 0) (hu : s.findActive user = some u) :
    let rest := s.watch.filter fun x => x != user
    userUnwatchAccess user s =
      ({ s with watch := rest }, .ok,
        .userWatch { user := user, state := some u.state, estimate := some (estimate s.settings.heldWeight u) } (decide (user ∈ s.watch))
          rest.length) := by
  unfold userUnwatchAccess
  rw [withUser_found h0 hu, userBlock_active hu]

end Found

/-! ### The obligations -/

/-- Settles O19: an admitted and a refused CHARGE, and CREDIT by whether live covers n. -/
theorem chargeAndCreditMoveLiveSpace : Obligations.ChargeAndCreditMoveLiveSpace := by
  refine ⟨fun s user n u h h0 hn hu => ?_, fun s user n u h h0 hn hr hu => ?_⟩
  · rw [← granted_findActive] at hu
    rw [← granted_settings s]
    refine ⟨fun ha => ?_, fun h1 h2 => ?_⟩
    · exact exec_served h (chargeAccess_admitted h0 hn hu (admits_iff.2 ha))
    · refine exec_served h (chargeAccess_refused h0 hn hu fun ha => ?_)
      exact (admits_iff.1 ha).elim h1 h2
  · rw [← granted_findActive] at hu
    have hw := creditAccess_found h0 hn hr hu
    refine ⟨fun hle => ?_, fun hlt => ?_⟩
    · rw [if_pos hle, Nat.min_eq_left hle] at hw
      exact exec_served h hw
    · rw [if_neg (Nat.not_le.2 hlt), Nat.min_eq_right (Nat.le_of_lt hlt), Nat.sub_eq_zero_of_le (Nat.le_of_lt hlt)] at hw
      exact exec_served h hw

/-- Settles O20: the record that is found, or the place that is free, decides. -/
theorem userLoadCreatesOrRefuses : Obligations.UserLoadCreatesOrRefuses := by
  refine ⟨fun s user soft hard live h h0 hs hh hl hn hroom => ?_, fun s user soft hard live h h0 hs hh hl => ?_⟩
  · rw [← granted_findUser] at hn
    rw [← granted_users] at hroom
    rw [← granted_settings s] at hroom ⊢
    have hw := userLoadAccess_creates (soft := soft) (hard := hard) h0 hs hh hl hn hroom
    exact exec_served h hw
  · rw [← granted_findUser, ← granted_users, ← granted_settings s]
    obtain ⟨hbusy, hexists, hfull⟩ := userLoadAccess_checked (s := s.granted) h0 hs hh hl
    exact ⟨fun r hr hx => exec_served h (hbusy r hr hx), fun r hr hx => exec_served h (hexists r hr hx),
      fun hn hf => exec_served h (hfull hn hf)⟩

/-- Settles O21: the accesses in the state of their grant; `putState_eq` gives the change of state with its WATCH cause. -/
theorem limitsResyncFreezeAndThaw : Obligations.LimitsResyncFreezeAndThaw := by
  refine ⟨fun s user soft hard u h0 hu => ?_, fun s user u h0 hu => ?_⟩
  · rw [← granted_findActive] at hu
    exact ⟨fun h hs hh => exec_served h (userLimitsAccess_found h0 hs hh hu), fun h => exec_served h (userResyncAccess_found h0 hu)⟩
  · rw [← granted_findActive] at hu
    rw [← granted_settings s, ← granted_tb s]
    have hput := fun x => putState_eq (s := s.granted) x (findActive_user hu)
    refine ⟨fun h => ?_, fun h hf he => ?_, fun h hf he => ?_, fun h hf => ?_⟩
    · have hx := exec_served h (userFreezeAccess_found h0 hu)
      rw [hput] at hx
      exact hx
    · have hx := exec_served h (userThawAccess_frozen h0 hu hf (if_pos he))
      rw [hput] at hx
      exact hx
    · have hx := exec_served h (userThawAccess_frozen h0 hu hf (if_neg (Nat.not_le.2 he)))
      rw [hput] at hx
      exact hx
    · exact exec_served h (userThawAccess_other h0 hu hf)

/-- Settles O23: the accesses in the state of their grant. -/
theorem queryWatchAndUnwatch : Obligations.QueryWatchAndUnwatch := by
  intro s user u h0 hu
  rw [← granted_findActive] at hu
  rw [← granted_settings s]
  obtain ⟨hlisted, hroom, hfull⟩ := userWatchAccess_found h0 hu
  have huser : u.user = user := findActive_user hu
  refine ⟨fun h => ?_, fun h hm => exec_served h (hlisted hm), fun h hm hl => exec_served h (hroom hm hl),
    fun h hm hl => exec_served h (hfull hm hl), fun h => exec_served h (userUnwatchAccess_found h0 hu)⟩
  have hw := userQueryAccess_found h0 hu
  unfold State.report at hw
  rw [huser] at hw
  exact exec_served h hw

end Sys2Proof.Machine
end

section
/-! PROOFS. The checks that every request naming a user record shares (R25, R119, R135). -/

namespace Sys2Proof.Machine

variable {s : State} {user : Nat}

/-- User number 0 is refused before every other check (R25). -/
theorem accessAnswer_user_zero {a : Access} (h : a.user = some 0) : accessAnswer a s = (s, .badRequest, .empty) := by
  cases a with
  | charge user n => cases h; simp [accessAnswer, chargeAccess, withUser_zero]
  | credit user n => cases h; simp [accessAnswer, creditAccess]
  | userLoad user soft hard live => cases h; simp [accessAnswer, userLoadAccess]
  | userLimits user soft hard => cases h; simp [accessAnswer, userLimitsAccess]
  | userFreeze user => cases h; simp [accessAnswer, userFreezeAccess, withUser_zero]
  | userThaw user => cases h; simp [accessAnswer, userThawAccess, withUser_zero]
  | userRetire user => cases h; simp [accessAnswer, userRetireAccess, withUser_zero]
  | userQuery user => cases h; simp [accessAnswer, userQueryAccess, withUser_zero]
  | userResync user => cases h; simp [accessAnswer, userResyncAccess, withUser_zero]
  | userWatch user => cases h; simp [accessAnswer, userWatchAccess, withUser_zero]
  | userUnwatch user => cases h; simp [accessAnswer, userUnwatchAccess, withUser_zero]
  | hold user e n => cases h; simp [accessAnswer, holdAccess]
  | restoreBegin user e n => cases h; simp [accessAnswer, restoreBeginAccess]
  | restoreProgress handle k => cases h
  | restoreEnd handle => cases h

/-- A count of 0 is refused before the record is looked for (R25, R119, R135). -/
theorem accessAnswer_count_zero {a : Access}
    (h : a = .charge user 0 ∨ a = .credit user 0 ∨ (∃ e, a = .hold user e 0) ∨ ∃ e, a = .restoreBegin user e 0) :
    accessAnswer a s = (s, .badRequest, .empty) := by
  rcases h with rfl | rfl | ⟨e, rfl⟩ | ⟨e, rfl⟩
  · simp [accessAnswer, chargeAccess]
  · simp [accessAnswer, creditAccess]
  · simp [accessAnswer, holdAccess]
  · simp [accessAnswer, restoreBeginAccess]

/-- A figure above its range is refused before the record is looked for (R25, R119, R135). -/
theorem accessAnswer_range {a : Access} (h0 : user ≠ 0)
    (h : (∃ n, a = .credit user n ∧ Config.maxAU < n) ∨
      (∃ soft hard live, a = .userLoad user soft hard live ∧ (Config.maxAU < soft ∨ Config.maxAU < hard ∨ Config.maxAU < live)) ∨
      (∃ soft hard, a = .userLimits user soft hard ∧ (Config.maxAU < soft ∨ Config.maxAU < hard)) ∨
      (∃ e n, a = .hold user e n ∧ Config.maxAU < n) ∨ ∃ e n, a = .restoreBegin user e n ∧ Config.maxRestore < n) :
    ∃ body, accessAnswer a s = (s, .range, body) := by
  rcases h with ⟨n, rfl, hn⟩ | ⟨soft, hard, live, rfl, hr⟩ | ⟨soft, hard, rfl, hr⟩ | ⟨e, n, rfl, hn⟩ | ⟨e, n, rfl, hn⟩
  · simp [accessAnswer, creditAccess, h0, hn, Nat.ne_zero_of_lt hn]
  · simp [accessAnswer, userLoadAccess, h0, hr]
  · simp [accessAnswer, userLimitsAccess, h0, hr]
  · simp [accessAnswer, holdAccess, h0, hn, Nat.ne_zero_of_lt hn]
  · simp [accessAnswer, restoreBeginAccess, h0, hn, Nat.ne_zero_of_lt hn]

/-- An access that the two checks before it let through, and that needs a record (R25, R119, R135). -/
def needsRecord (user : Nat) (a : Access) : Prop :=
  (∃ n, a = .charge user n ∧ n ≠ 0) ∨ (∃ n, a = .credit user n ∧ n ≠ 0 ∧ n ≤ Config.maxAU) ∨
  (∃ soft hard, a = .userLimits user soft hard ∧ soft ≤ Config.maxAU ∧ hard ≤ Config.maxAU) ∨ a = .userFreeze user ∨ a = .userThaw user ∨
  a = .userRetire user ∨ a = .userQuery user ∨ a = .userResync user ∨ a = .userWatch user ∨ a = .userUnwatch user ∨
  (∃ e n, a = .hold user e n ∧ n ≠ 0 ∧ n ≤ Config.maxAU) ∨ (∃ e n, a = .restoreBegin user e n ∧ n ≠ 0 ∧ n ≤ Config.maxRestore)

/-- No record, or a RETIRING one (R25). -/
theorem accessAnswer_unknown {a : Access} (h0 : user ≠ 0) (hu : s.findActive user = none) (h : needsRecord user a) :
    ∃ body, accessAnswer a s = (s, .unknownUser, body) := by
  have hlimits : ∀ {soft hard : Nat}, soft ≤ Config.maxAU → hard ≤ Config.maxAU → ¬ (Config.maxAU < soft ∨ Config.maxAU < hard) :=
    fun hs hh => by omega
  rcases h with ⟨n, rfl, hn⟩ | ⟨n, rfl, hn, hr⟩ | ⟨soft, hard, rfl, hs, hh⟩ | rfl | rfl | rfl | rfl | rfl | rfl | rfl |
    ⟨e, n, rfl, hn, hr⟩ | ⟨e, n, rfl, hn, hr⟩
  · simp [accessAnswer, chargeAccess, hn, withUser_unknown h0 hu]
  · simp [accessAnswer, creditAccess, h0, hn, Nat.not_lt.2 hr, withUser_unknown h0 hu]
  · simp [accessAnswer, userLimitsAccess, h0, hlimits hs hh, withUser_unknown h0 hu]
  · simp [accessAnswer, userFreezeAccess, withUser_unknown h0 hu]
  · simp [accessAnswer, userThawAccess, withUser_unknown h0 hu]
  · simp [accessAnswer, userRetireAccess, withUser_unknown h0 hu]
  · simp [accessAnswer, userQueryAccess, withUser_unknown h0 hu]
  · simp [accessAnswer, userResyncAccess, withUser_unknown h0 hu]
  · simp [accessAnswer, userWatchAccess, withUser_unknown h0 hu]
  · simp [accessAnswer, userUnwatchAccess, withUser_unknown h0 hu]
  · simp [accessAnswer, holdAccess, h0, hn, Nat.not_lt.2 hr, withUser_unknown h0 hu]
  · simp [accessAnswer, restoreBeginAccess, h0, hn, Nat.not_lt.2 hr, withUser_unknown h0 hu]

/-- Settles O24, by the checks in their order. -/
theorem sharedChecksRefuseUserRequests : Obligations.SharedChecksRefuseUserRequests := by
  intro s a h
  refine ⟨fun h0 => exec_served h (accessAnswer_user_zero h0), fun user h0 => ⟨fun hc => exec_served h (accessAnswer_count_zero hc),
    fun hr => ?_, fun hu hn => ?_⟩⟩
  · obtain ⟨body, hw⟩ := accessAnswer_range (s := s.granted) h0 hr
    exact ⟨body, exec_served h hw⟩
  · obtain ⟨body, hw⟩ := accessAnswer_unknown h0 ((granted_findActive s user).trans hu) hn
    exact ⟨body, exec_served h hw⟩

end Sys2Proof.Machine
end
section
/-! PROOFS. USER-RETIRE and the placing of final notices (R34 to R36, R58, R61). -/

namespace Sys2Proof.Machine

variable {s : State} {user : Nat} {u : UserRec}

/-! ### The placing of a final notice (R35) -/

/-- The queue has room for the USAGE of a user who has none queued (R59). -/
theorem usageRoom_iff {l : List QNotice} : usageRoom l = true ↔ (l.filter fun q => q.notice.isUsage).length < 4 ∧ l.length < 8 := by
  unfold usageRoom usageCount
  rw [Bool.and_eq_true, decide_eq_true_iff, decide_eq_true_iff]
  rfl

/-- A USAGE that a final notice may displace (R61). -/
theorem finalMayDisplace_iff {q : QNotice} :
    s.finalMayDisplace q = true ↔
      q.sending = false ∧ ∃ v x, q.notice = .usage v x ∧ ¬(q.final = true ∧ s.isRetiring v = true) := by
  obtain ⟨notice, attempts, sending, final⟩ := q
  cases notice with
  | usage v x => cases final <;> simp [State.finalMayDisplace, Notice.isUsage]
  | epochPropose _ => simp [State.finalMayDisplace]
  | epochReady _ => simp [State.finalMayDisplace]
  | epochLatest _ => simp [State.finalMayDisplace]
  | share _ => simp [State.finalMayDisplace]
  | presence _ => simp [State.finalMayDisplace]

/-- The newest notice that qualifies is the one behind which none does. -/
theorem newestNotice_split {p : QNotice → Bool} {a b : List QNotice} {q : QNotice} (hq : p q = true) (hb : ∀ x ∈ b, p x = false) :
    newestNotice p (a ++ q :: b) = some q := by
  have hnone : b.reverse.find? p = none := by simpa using hb
  unfold newestNotice
  simp [List.find?_append, hnone, hq]

theorem newestNotice_none {p : QNotice → Bool} {l : List QNotice} (h : ∀ x ∈ l, p x = false) : newestNotice p l = none := by
  unfold newestNotice
  simpa using h

/-- A USAGE for the user is queued: the final notice replaces it, in place or as its successor (R35, R60). -/
theorem placeFinal_replaces (h : s.out.has (Notice.isUsageOf user) = true) :
    s.placeFinal user = some { s with out := s.out.replace (Notice.isUsageOf user) (.usage user 0) true } := by
  unfold State.placeFinal
  rw [if_pos h]

/-- There is room: the final notice is appended (R35). -/
theorem placeFinal_appends (h : s.out.has (Notice.isUsageOf user) = false) (hr : usageRoom s.out.queue = true) :
    s.placeFinal user = some { s with out := s.out.append (.usage user 0) true } := by
  unfold State.placeFinal
  rw [if_neg (by simp [h]), if_pos hr]

/-- There is none: the newest USAGE that qualifies is displaced (R35, R61). -/
theorem placeFinal_displaces {a b : List QNotice} {q : QNotice} (h : s.out.has (Notice.isUsageOf user) = false)
    (hr : usageRoom s.out.queue = false) (hl : s.out.queue = a ++ q :: b) (ha : q ∉ a) (hq : s.finalMayDisplace q = true)
    (hb : ∀ x ∈ b, s.finalMayDisplace x = false) :
    s.placeFinal user =
      some (State.depart q .displaced { s with out := Outbound.append (.usage user 0) true { s.out with queue := a ++ b } }) := by
  have herase : (a ++ q :: b).erase q = a ++ b := by rw [List.erase_append_right _ ha, List.erase_cons_head]
  unfold State.placeFinal
  rw [if_neg (by simp [h]), if_neg (by simp [hr]), hl, newestNotice_split hq hb]
  simp only [herase]

/-- None qualifies: the final notice is not placed (R35). -/
theorem placeFinal_none (h : s.out.has (Notice.isUsageOf user) = false) (hr : usageRoom s.out.queue = false)
    (hq : ∀ x ∈ s.out.queue, s.finalMayDisplace x = false) : s.placeFinal user = none := by
  unfold State.placeFinal
  rw [if_neg (by simp [h]), if_neg (by simp [hr]), newestNotice_none hq]

/-- A try of a waiting final notice (R36). -/
theorem placeOneWaiting_eq (s : State) (user : Nat) :
    s.placeOneWaiting user = match s.placeFinal user with
      | none => s
      | some t => { t with
          users := modifyFirst (fun r => r.user == user) (fun r => { r with reportDue := false }) t.users
          finalWaiting := t.finalWaiting.filter fun w => w != user } := by
  unfold State.placeOneWaiting
  cases s.placeFinal user <;> rfl

/-! ### USER-RETIRE (R34) -/

/-- Space that is live, held or reserved (R34). -/
theorem userRetireAccess_notEmpty (h0 : user ≠ 0) (hu : s.findActive user = some u) (h : 0 < u.live ∨ 0 < u.held ∨ 0 < u.reserved) :
    userRetireAccess user s = (s, .notEmpty, .user (s.userBlock user)) := by
  unfold userRetireAccess
  rw [withUser_found h0 hu]
  exact if_pos h

/-- Nothing live, held or reserved (R34). -/
theorem not_space (hl : u.live = 0) (hh : u.held = 0) (hr : u.reserved = 0) : ¬ (0 < u.live ∨ 0 < u.held ∨ 0 < u.reserved) := by omega

/-- No final notice is owed, or no peer is PRESENT: the record is freed within the access (R34). -/
theorem userRetireAccess_frees {owed : Bool} {t : State} (h0 : user ≠ 0) (hu : s.findActive user = some u) (hl : u.live = 0)
    (hh : u.held = 0) (hr : u.reserved = 0) (ho : s.finalOwed u = owed) (hf : owed = true → s.anyPresent = false)
    (ht : s.retireNow owed user = t) :
    userRetireAccess user s = (t, .ok, .user { user := user, state := none, estimate := some 0 }) := by
  have hboth : (owed && s.anyPresent) = false := by simpa using hf
  unfold userRetireAccess
  rw [withUser_found h0 hu]
  simp only [if_neg (not_space hl hh hr), ho, hboth, Bool.false_eq_true, if_false, ht]

/-- A final notice is owed and a peer is PRESENT: the record becomes RETIRING (R34). -/
theorem userRetireAccess_retires {t : State} (h0 : user ≠ 0) (hu : s.findActive user = some u) (hl : u.live = 0) (hh : u.held = 0)
    (hr : u.reserved = 0) (ho : s.finalOwed u = true) (hp : s.anyPresent = true) (ht : s.beginRetiring u = t) :
    userRetireAccess user s = (t, .ok, .user (t.userBlock user)) := by
  unfold userRetireAccess
  rw [withUser_found h0 hu]
  simp only [if_neg (not_space hl hh hr), ho, hp, Bool.and_self, if_true, ht]

/-- A final notice is owed when the user was reported or a USAGE for the user is queued (R34). -/
theorem finalOwed_iff (hu : u.user = user) : s.finalOwed u = true ↔ 0 < u.reported ∨ s.out.has (Notice.isUsageOf user) = true := by
  simp [State.finalOwed, hu]

/-- A record freed within the access, its owed final notice placed first (R34). -/
theorem retireNow_placed {placed : State} (h : s.placeNow user = some placed) : s.retireNow true user = placed.freeUser user := by
  unfold State.retireNow
  rw [if_pos rfl, h, Option.getD_some]

/-- A record freed within the access, its owed final notice abandoned (R34). -/
theorem retireNow_abandoned (h : s.placeNow user = none) : s.retireNow true user = s.freeUser user := by
  unfold State.retireNow
  rw [if_pos rfl, h, Option.getD_none]

/-- The record in RETIRING, its final notice placed (R34, R35). -/
theorem beginRetiring_placed {placed : State} (hu : u.user = user)
    (h : (s.putState { u with reported := 0, reportDue := false } .retiring).placeNow user = some placed) : s.beginRetiring u = placed := by
  subst hu
  unfold State.beginRetiring
  simp only [h]

/-- The record in RETIRING, its final notice waiting with report due set (R34, R36). -/
theorem beginRetiring_waits (hu : u.user = user)
    (h : (s.putState { u with reported := 0, reportDue := false } .retiring).placeNow user = none) :
    let t := s.putState { u with reported := 0, reportDue := false } .retiring
    s.beginRetiring u = { t.setDue user with finalWaiting := t.finalWaiting ++ [user] } := by
  subst hu
  unfold State.beginRetiring
  simp only [h]

/-- Settles O22: the rows of R34's table, the five cases of R35, and the tries of R36. -/
theorem retireFreesOrWaitsForItsFinalNotice : Obligations.RetireFreesOrWaitsForItsFinalNotice := by
  refine ⟨fun s user u h h0 hu => ?_, fun s user => ?_, fun s => ?_⟩
  · rw [← granted_findActive] at hu
    have huser : u.user = user := findActive_user hu
    have howed : 0 < u.reported ∨ s.granted.out.has (Notice.isUsageOf user) = true → s.granted.finalOwed u = true := (finalOwed_iff huser).2
    refine ⟨fun hs => exec_served h (userRetireAccess_notEmpty h0 hu hs), fun hl hh hr hrep hq => ?_,
      fun placed hl hh hr ho hp hplace => ?_, fun hl hh hr ho hp hplace => ?_, fun placed hl hh hr ho hp hplace => ?_,
      fun hl hh hr ho hp hplace => ?_⟩
    · have hnot : s.granted.finalOwed u = false := by
        rw [Bool.eq_false_iff, ne_eq, finalOwed_iff huser, hrep]
        exact fun ho => ho.elim (lt_irrefl _) (Bool.eq_false_iff.1 hq)
      exact exec_served h (userRetireAccess_frees h0 hu hl hh hr hnot nofun rfl)
    · exact exec_served h (userRetireAccess_frees h0 hu hl hh hr (howed ho) (fun _ => hp) (retireNow_placed hplace))
    · exact exec_served h (userRetireAccess_frees h0 hu hl hh hr (howed ho) (fun _ => hp) (retireNow_abandoned hplace))
    · exact exec_served h (userRetireAccess_retires h0 hu hl hh hr (howed ho) hp (beginRetiring_placed huser hplace))
    · exact exec_served h (userRetireAccess_retires h0 hu hl hh hr (howed ho) hp (beginRetiring_waits huser hplace))
  · refine ⟨placeFinal_replaces, fun hq hroom => placeFinal_appends hq (usageRoom_iff.2 hroom), fun hq hroom => ?_⟩
    have hfull : usageRoom s.out.queue = false := Bool.eq_false_iff.2 fun hr => hroom (usageRoom_iff.1 hr)
    refine ⟨fun a b q hl ha hqual hb => ?_, fun hnone => ?_⟩
    · exact placeFinal_displaces hq hfull hl ha (finalMayDisplace_iff.2 hqual)
        fun x hx => Bool.eq_false_iff.2 fun hd => hb x hx (finalMayDisplace_iff.1 hd)
    · exact placeFinal_none hq hfull fun x hx => Bool.eq_false_iff.2 fun hd => hnone x hx (finalMayDisplace_iff.1 hd)
  · exact congrArg (fun f => s.finalWaiting.foldl f s) (funext fun t => funext fun user => placeOneWaiting_eq t user)

end Sys2Proof.Machine
end
section
/-! PROOFS. What a notice's leaving the queue means to its owner, and the two rows that pay what it left owed (R22, R36, R37, R58, R61, R83 to
R85). -/

namespace Sys2Proof.Machine

variable {s : State} {q : QNotice} {e : NoticeEnd} {user x : Nat}

/-! ### Departures (R36, R37, R58, R61, R83, R85) -/

/-- The digest gap timer restarts when a USAGE leaves the queue (R83). -/
def State.restartGap (s : State) : State := { s with digest := { s.digest with gapTimer := 0 } }

/-- Notices of the other kinds need nothing (R58). -/
theorem depart_of_not_usage (h : q.notice.isUsage = false) : s.depart q e = s := by
  unfold State.depart
  cases hq : q.notice with
  | usage user x => simp [hq, Notice.isUsage] at h
  | epochPropose _ => rfl
  | epochReady _ => rfl
  | epochLatest _ => rfl
  | share _ => rfl
  | presence _ => rfl

/-- The final notice of a RETIRING record, by its end (R36, R37). -/
theorem depart_retiring (hq : q.notice = .usage user x) (h : q.final = true ∧ s.isRetiring user = true) :
    s.depart q e =
      match e with
      | .delivered | .noListener | .dropped | .clash => { s.restartGap with freeOwed := s.freeOwed ++ [user] }
      | .displaced => { s.restartGap.setDue user with finalWaiting := s.finalWaiting ++ [user] }
      | .superseded | .withdrawn => s.restartGap := by
  unfold State.depart
  rw [hq]
  simp only [h.1, h.2, Bool.and_self, if_true]
  cases e <;> rfl

/-- Any other USAGE, by its end (R61, R85). -/
theorem depart_ordinary (hq : q.notice = .usage user x) (h : ¬ (q.final = true ∧ s.isRetiring user = true)) :
    s.depart q e =
      match e with
      | .displaced => { s.restartGap with dueOwed := s.dueOwed ++ [user] }
      | .dropped => if q.final then s.restartGap else { s.restartGap with dueOwed := s.dueOwed ++ [user] }
      | .delivered | .noListener | .clash | .superseded | .withdrawn => s.restartGap := by
  have hf : (q.final && s.isRetiring user) = false := by simpa using h
  unfold State.depart
  rw [hq]
  simp only [hf, Bool.false_eq_true, if_false]
  cases e <;> rfl

/-! ### The rows of what is owed (R37, R85) -/

/-- A record owed its freeing, still RETIRING or no longer so (R37, log 16). -/
theorem freeRetired_owed (h : user ∈ s.freeOwed) :
    s.freeRetired user =
      if s.isRetiring user = true then State.freeUser user { s with freeOwed := s.freeOwed.erase user }
      else { s with freeOwed := s.freeOwed.erase user } := by
  unfold State.freeRetired
  exact if_pos h

/-- Report due owed to a user: it is set on a record that is present and not RETIRING (R85). -/
theorem dueAfterLoss_owed (h : user ∈ s.dueOwed) :
    s.dueAfterLoss user =
      if (s.findActive user).isSome = true then State.setDue user { s with dueOwed := s.dueOwed.erase user }
      else { s with dueOwed := s.dueOwed.erase user } := by
  unfold State.dueAfterLoss
  rw [if_pos h]
  cases s.findActive user <;> rfl

/-- Settles O39: the departures by kind and end, and the rows by what is owed. -/
theorem noticeEndsFreeRecordsAndOweReports : Obligations.NoticeEndsFreeRecordsAndOweReports := by
  refine ⟨fun s q e => ⟨depart_of_not_usage, fun user x hq => ⟨fun hf hr => ?_, fun hn => ?_⟩⟩,
    fun s user => ⟨fun h => ?_, fun h => ?_⟩⟩
  · rw [depart_retiring hq ⟨hf, hr⟩]
    refine ⟨?_, ?_, ?_⟩
    · rintro (rfl | rfl | rfl | rfl) <;> rfl
    · rintro rfl
      rfl
    · rintro (rfl | rfl) <;> rfl
  · rw [depart_ordinary hq hn]
    constructor
    · rintro (rfl | ⟨rfl, hfinal⟩)
      · rfl
      · exact if_neg (by simp [hfinal])
    · rintro (rfl | rfl | rfl | rfl | rfl | ⟨rfl, hfinal⟩)
      iterate 5 rfl
      exact if_pos hfinal
  · have hx : exec (.retiringRecordFreed user) s = .next (s.freeRetired user) := rfl
    rw [hx, freeRetired_owed h]
    exact ⟨fun hr => by rw [if_pos hr]; rfl, fun hr => by rw [if_neg (by simp [hr])]⟩
  · have hx : exec (.reportDueAfterLoss user) s = .next (s.dueAfterLoss user) := rfl
    rw [hx, dueAfterLoss_owed h]
    exact ⟨fun ha => by rw [if_pos ha]; rfl, fun ha => by rw [if_neg (by simp [ha])]⟩

end Sys2Proof.Machine
end
section
/-! PROOFS. What earlier events left owed: nothing on a state that owes nothing, and else what the follow-on rows do (log 6, log 7, log 8). -/

namespace Sys2Proof.Machine

variable {s : State}

/-! ### The idle limits -/

/-- A job whose release is still to be offered (R141). -/
theorem idleDue_iff {i : Fin 8} :
    s.idleDue i = true ↔ ∃ j, (s.jobSlot i).job = some j ∧ j.releaseWaiting = false ∧ s.settings.idleLimit ≤ j.idle := by
  unfold State.idleDue
  cases (s.jobSlot i).job <;> simp

/-- A slot after a write to a slot. -/
theorem setJob_jobSlot (s : State) (i k : Fin 8) (x : JobSlot) :
    (s.setJob i x).jobSlot k = if k = i ∧ i.val < s.jobs.length then x else s.jobSlot k := by
  unfold State.jobSlot State.setJob
  simp only [List.getD_eq_getElem?_getD, List.getElem?_set]
  by_cases hk : k = i
  · subst hk
    by_cases hl : k.val < s.jobs.length <;> simp [hl]
  · simp [hk, Fin.val_ne_of_ne (Ne.symm hk)]

/-- A slot that is due is one of the table. -/
theorem idleDue_lt {i : Fin 8} (h : s.idleDue i = true) : i.val < s.jobs.length := by
  obtain ⟨j, hj, -, -⟩ := idleDue_iff.1 h
  by_contra hl
  have hnone : s.jobSlot i = { gen := 0, job := none } := List.getD_eq_default _ _ (Nat.le_of_not_lt hl)
  simp [hnone] at hj

/-- A slot that is not due is offered no release (R141). -/
theorem offerRelease_of_not_due {i : Fin 8} (h : s.idleDue i = false) : s.offerRelease i = s := by
  unfold State.offerRelease
  cases (s.jobSlot i).job with
  | none => rfl
  | some j => simp [h]

/-- A slot that is due has its release waiting after the offer, and every other slot stands (R141). -/
theorem offerRelease_of_due {i : Fin 8} {j : Job} (hj : (s.jobSlot i).job = some j) (hi : s.idleDue i = true) :
    s.offerRelease i =
      { s.setJob i { gen := (s.jobSlot i).gen, job := some { j with releaseWaiting := true } } with
        class1 := s.class1 ++ [.idleRelease i (s.jobSlot i).gen] } := by
  unfold State.offerRelease
  rw [hj]
  exact if_pos hi

/-- Whether a slot is due depends on that slot and the settings alone (R141). -/
theorem idleDue_congr {t : State} {k : Fin 8} (hs : t.settings = s.settings) (hj : t.jobSlot k = s.jobSlot k) :
    t.idleDue k = s.idleDue k := by
  unfold State.idleDue
  rw [hs, hj]

/-- After the offer of a slot's release that slot is not due, and every other is as it was (R141). -/
theorem idleDue_offerRelease (s : State) (i k : Fin 8) : (s.offerRelease i).idleDue k = (s.idleDue k && decide (k ≠ i)) := by
  cases hi : s.idleDue i with
  | false =>
    rw [offerRelease_of_not_due hi]
    by_cases hk : k = i <;> simp [hk, hi]
  | true =>
    obtain ⟨j, hj, -, -⟩ := idleDue_iff.1 hi
    have hoffer := offerRelease_of_due hj hi
    have hsettings : (s.offerRelease i).settings = s.settings := by
      rw [hoffer]
      rfl
    have hslot : (s.offerRelease i).jobSlot k =
        if k = i ∧ i.val < s.jobs.length then { gen := (s.jobSlot i).gen, job := some { j with releaseWaiting := true } }
        else s.jobSlot k := by
      rw [hoffer]
      exact setJob_jobSlot s i k _
    by_cases hk : k = i
    · subst hk
      rw [if_pos ⟨rfl, idleDue_lt hi⟩] at hslot
      simp only [ne_eq, not_true, decide_false, Bool.and_false, Bool.eq_false_iff]
      intro hdue
      obtain ⟨r, hr, hw, -⟩ := idleDue_iff.1 hdue
      rw [hslot] at hr
      cases hr
      cases hw
    · rw [if_neg fun h => hk h.1] at hslot
      rw [idleDue_congr hsettings hslot]
      simp [hk]

/-! ### Nothing owed -/

/-- The conditions under which no follow-on row has anything to do (R37, R55, R72, R85, R110, R111, R141, R160). -/
theorem settled_of_nothing_owed (hfree : s.freeOwed = []) (hdue : s.dueOwed = [])
    (hrx : ∀ sender n, s.line.rx = .stretching sender n → Config.receiveSlots ≤ s.recv.length)
    (hage : ∀ st : Station, st ≠ s.station → (s.peer st).state = .present → (s.peer st).framesSince < s.settings.goneAge)
    (hcat : ∀ c ∈ s.cat, c.state = .asked ∨ c.state = .ready → c.timer ≠ some 0)
    (hidle : ∀ (i : Fin 8) (j : Job), (s.jobSlot i).job = some j → j.releaseWaiting = false → j.idle < s.settings.idleLimit)
    (hwindow : s.dup.window ≠ some 0) : s.settled = true := by
  have hstretch : (match s.line.rx with
      | .stretching _ _ => decide (Config.receiveSlots ≤ s.recv.length)
      | .noFrame => true
      | .receiving _ => true
      | .judged _ => true) = true := by
    cases hr : s.line.rx with
    | stretching sender n => exact decide_eq_true (hrx sender n hr)
    | noFrame => rfl
    | receiving _ => rfl
    | judged _ => rfl
  have hasked : (match s.askedEntry with
      | none => true
      | some c => decide (c.timer ≠ some 0)) = true := by
    cases ha : s.askedEntry with
    | none => rfl
    | some c =>
      have hstate : c.state = .asked := by simpa using List.find?_some ha
      exact decide_eq_true (hcat c (List.mem_of_find?_eq_some ha) (.inl hstate))
  have hjobs : ∀ i, s.idleDue i = false := by
    intro i
    rw [Bool.eq_false_iff]
    intro hi
    obtain ⟨j, hj, hw, hlimit⟩ := idleDue_iff.1 hi
    exact Nat.not_le.2 (hidle i j hj hw) hlimit
  have hpeers : ∀ st : Station,
      (¬ (s.peer st).state = .present ∨ (s.peer st).framesSince < s.settings.goneAge) ∨ st = s.station := by
    intro st
    by_cases hst : st = s.station
    · exact .inr hst
    · exact .inl (not_or_of_imp fun hp => hage st hst hp)
  have hready : ∀ c ∈ s.cat, ¬ c.state = .ready ∨ ¬ c.timer = some 0 :=
    fun c hc => not_or_of_imp fun hr => hcat c hc (.inr hr)
  unfold State.settled
  simp only [Bool.and_eq_true]
  refine ⟨⟨⟨⟨⟨⟨⟨?_, ?_⟩, hstretch⟩, ?_⟩, hasked⟩, ?_⟩, ?_⟩, decide_eq_true hwindow⟩
  · simp [hfree]
  · simp [hdue]
  · simpa using hpeers
  · simpa using hready
  · simpa using hjobs

/-! ### Rows, one after another -/

/-- A row that answers leaves its next state to the rows after it. -/
theorem run_cons {c : Instr} {t : State} (h : exec c s = .next t) (cs : List Instr) : s.run (c :: cs) = t.run cs := by
  unfold State.run
  rw [List.foldl_cons, h]

theorem run_append (s : State) (cs ds : List Instr) : s.run (cs ++ ds) = (s.run cs).run ds := List.foldl_append

theorem run_single {c : Instr} {t : State} (h : exec c s = .next t) : s.run [c] = t := run_cons h []

/-- A list of rows of one kind is the fold of what that row does. -/
theorem run_map {α : Type} {row : α → Instr} {f : State → α → State} (h : ∀ t x, exec (row x) t = .next (f t x)) (l : List α)
    (s : State) : s.run (l.map row) = l.foldl f s := by
  induction l generalizing s with
  | nil => rfl
  | cons x xs ih => rw [List.map_cons, run_cons (h s x), ih, List.foldl_cons]

/-! ### The rows of the idle limits -/

/-- The row of a slot offers the release of that slot alone, and only when no lower slot is due (R141, log 7). -/
theorem exec_idleLimitReached (i : Fin 8) (s : State) :
    exec (.idleLimitReached i) s = .next (if s.firstIdleDue = some i then s.offerRelease i else s) := rfl

/-- Where no lower slot is due the row does what the offer of the slot's release does. -/
theorem exec_idleLimitReached_lowest {i : Fin 8} (h : ∀ k, k < i → s.idleDue k = false) :
    exec (.idleLimitReached i) s = .next (s.offerRelease i) := by
  rw [exec_idleLimitReached]
  cases hi : s.idleDue i with
  | true => rw [if_pos (show s.firstIdleDue = some i from lowestSlot_some hi h)]
  | false => rw [offerRelease_of_not_due hi, ite_self]

/-- The rows of ascending slots, among them every slot that is due, offer each release in turn (R141, log 7). -/
theorem run_idleLimits (l : List (Fin 8)) (hl : l.Pairwise (· < ·)) (s : State) (hdue : ∀ k, s.idleDue k = true → k ∈ l) :
    s.run (l.map .idleLimitReached) = l.foldl State.offerRelease s := by
  induction l generalizing s with
  | nil => rfl
  | cons i rest ih =>
    obtain ⟨hlow, hrest⟩ := List.pairwise_cons.1 hl
    have hlowest : ∀ k, k < i → s.idleDue k = false := by
      intro k hk
      rw [Bool.eq_false_iff]
      intro hkd
      rcases List.mem_cons.1 (hdue k hkd) with rfl | hm
      · exact absurd hk (lt_irrefl _)
      · exact absurd hk (hlow k hm).asymm
    rw [List.map_cons, run_cons (exec_idleLimitReached_lowest hlowest), List.foldl_cons]
    refine ih hrest _ fun k hk => ?_
    rw [idleDue_offerRelease, Bool.and_eq_true, decide_eq_true_eq] at hk
    exact (List.mem_cons.1 (hdue k hk.1)).resolve_left hk.2

/-! ### The whole -/

/-- The freeings leave the reports due as they were (R37, log 8). -/
theorem freeRetired_dueOwed (l : List Nat) (s : State) : (l.foldl (fun t u => State.freeRetired u t) s).dueOwed = s.dueOwed := by
  refine foldl_keeps (fun t => t.dueOwed = s.dueOwed) _ l (fun t user ht => ?_) s rfl
  unfold State.freeRetired
  split
  · simp only []
    split <;> exact ht
  · exact ht

/-- Settling is the run of the follow-on rows in the model's order (log 7). -/
theorem settle_eq_run (s : State) :
    let d := s.run (s.freeOwed.map Instr.retiringRecordFreed ++ s.dueOwed.map Instr.reportDueAfterLoss ++ [Instr.stretchEntryFreed] ++
      (List.finRange 16).map Instr.peerGoneAge ++ [Instr.askTimerExpiry])
    let f := d.run ((d.cat.map fun c => Instr.closeTimerExpiry c.epoch) ++ (List.finRange 8).map Instr.idleLimitReached ++
      [Instr.windowLimitExpiry])
    s.settle = f.run (f.dueOwed.map Instr.reportDueAfterLoss) := by
  have hfree : ∀ (l : List Nat) (t : State), t.run (l.map .retiringRecordFreed) = l.foldl (fun t u => State.freeRetired u t) t :=
    run_map fun _ _ => rfl
  have hloss : ∀ (l : List Nat) (t : State), t.run (l.map .reportDueAfterLoss) = l.foldl (fun t u => State.dueAfterLoss u t) t :=
    run_map fun _ _ => rfl
  have hage : ∀ (l : List Station) (t : State), t.run (l.map .peerGoneAge) = l.foldl (fun t st => State.agePeer st t) t :=
    run_map fun _ _ => rfl
  have hclose : ∀ (l : List Epoch) (t : State), t.run (l.map .closeTimerExpiry) = l.foldl State.expireClose t := run_map fun _ _ => rfl
  have hidle : ∀ t : State, t.run ((List.finRange 8).map .idleLimitReached) = (List.finRange 8).foldl State.offerRelease t :=
    fun t => run_idleLimits _ (List.pairwise_lt_finRange 8) t fun k _ => List.mem_finRange k
  have hstretch : ∀ t : State, t.run [.stretchEntryFreed] = t.takeStretched := fun _ => run_single rfl
  have hask : ∀ t : State, t.run [.askTimerExpiry] = t.expireAsk := fun _ => run_single rfl
  have hwindow : ∀ t : State, t.run [.windowLimitExpiry] = t.expireWindow := fun _ => run_single rfl
  have hcat : ∀ l : List CatEntry, (l.map fun c => Instr.closeTimerExpiry c.epoch) = (l.map CatEntry.epoch).map .closeTimerExpiry :=
    fun l => by simp
  unfold State.settle
  simp only [run_append, hfree, hloss, hage, hclose, hidle, hstretch, hask, hwindow, hcat, freeRetired_dueOwed]

/-- Settles O3: nothing owed is a settled state, and the rest is `settle_eq_run`. -/
theorem whatIsOwedIsWhatItsRowsDo : Obligations.WhatIsOwedIsWhatItsRowsDo :=
  ⟨fun _ hfree hdue hrx hage hcat hidle hwindow =>
    settle_of_settled (settled_of_nothing_owed hfree hdue hrx hage hcat hidle hwindow), settle_eq_run⟩

end Sys2Proof.Machine
end

section
/-! PROOFS. What the work of the outbound queue can do to it, and the queue's law (R49, R57 to R61). -/

namespace Sys2Proof.Machine

/-! ### Keys (R59) -/

/-- The priority of a notice is that of its key; an epoch notice, which has none, goes first (R47). -/
theorem priority_eq (n : Notice) :
    n.priority = match n.key with
      | none => 0
      | some .share => 1
      | some (.usage _) => 2
      | some .presence => 3 := by
  cases n <;> rfl

theorem priority_of_key {m n : Notice} (h : m.key = n.key) : m.priority = n.priority := by rw [priority_eq, priority_eq, h]

/-- Whether a notice is a USAGE is told by its key. -/
theorem isUsage_eq (n : Notice) :
    n.isUsage = match n.key with
      | some (.usage _) => true
      | some .share | some .presence | none => false := by
  cases n <;> rfl

theorem isUsage_of_key {m n : Notice} (h : m.key = n.key) : m.isUsage = n.isUsage := by rw [isUsage_eq, isUsage_eq, h]

/-- `same` tells the notices of the key `k` from all others. -/
def Tells (same : Notice → Bool) (k : NoticeKey) : Prop := ∀ m : Notice, same m = true ↔ m.key = some k

theorem tells_usage (user : Nat) : Tells (Notice.isUsageOf user) (.usage user) := by
  intro m
  cases m <;> simp [Notice.isUsageOf, Notice.key]

theorem tells_share : Tells Notice.isShare .share := by
  intro m
  cases m <;> simp [Notice.isShare, Notice.priority, Notice.key]

theorem tells_presence : Tells Notice.isPresence .presence := by
  intro m
  cases m <;> simp [Notice.isPresence, Notice.priority, Notice.key]

/-! ### The first notice of a kind -/

/-- The first element that meets `p`, where those before it do not. -/
theorem find_at {α : Type} {p : α → Bool} {a b : List α} {x : α} (ha : ∀ y ∈ a, p y = false) (hx : p x = true) :
    (a ++ x :: b).find? p = some x := by
  have hnone : a.find? p = none := by simpa using ha
  simp [List.find?_append, hnone, hx]

theorem modifyFirst_at {α : Type} {p : α → Bool} (f : α → α) {a b : List α} {x : α} (ha : ∀ y ∈ a, p y = false) (hx : p x = true) :
    modifyFirst p f (a ++ x :: b) = a ++ f x :: b := by
  induction a with
  | nil => simp [modifyFirst, hx]
  | cons y ys ih => simp [modifyFirst, ha y (by simp), ih fun z hz => ha z (by simp [hz])]

/-! ### The law of a queue (R59) -/

/-- A queue of notices within its bounds and in its order (R59). -/
structure QueueLawful (l : List QNotice) : Prop where
  length : l.length ≤ Config.outboundSlots
  usages : usageCount l ≤ Config.usageSlots
  keys : (l.filterMap fun q => q.notice.key).Nodup
  sorted : (l.map fun q => q.notice.priority).Pairwise (· ≤ ·)

/-- No notice of the queue has the key of `n`; an epoch notice, which has none, may enter beside any other (R59). -/
def Fresh (n : Notice) (l : List QNotice) : Prop := ∀ q ∈ l, q.notice.key = n.key → n.key = none

theorem fresh_of_key_none {n : Notice} {l : List QNotice} (h : n.key = none) : Fresh n l := fun _ _ _ => h

theorem Fresh.sublist {n : Notice} {l m : List QNotice} (h : Fresh n l) (hm : m.Sublist l) : Fresh n m :=
  fun q hq => h q (hm.subset hq)

/-- What remains of a lawful queue when a notice leaves it is fresh for that notice's key. -/
theorem fresh_of_removed {a b : List QNotice} {q : QNotice} {n : Notice} (h : QueueLawful (a ++ q :: b)) (hk : q.notice.key = n.key) :
    Fresh n (a ++ b) := by
  intro x hx hxn
  by_contra hn
  obtain ⟨k, hk'⟩ := Option.ne_none_iff_exists'.1 hn
  have hd : ((q :: (a ++ b)).filterMap fun q => q.notice.key).Nodup := (List.perm_middle.filterMap _).nodup_iff.1 h.keys
  simp only [List.filterMap_cons, hk, hk', List.nodup_cons] at hd
  exact hd.1 (List.mem_filterMap.2 ⟨x, hx, hxn.trans hk'⟩)

theorem insertNotice_perm (q : QNotice) (l : List QNotice) : (insertNotice q l).Perm (q :: l) := by
  induction l with
  | nil => exact .refl _
  | cons x xs ih =>
    by_cases h : q.notice.priority < x.notice.priority
    · simp [insertNotice, h]
    · rw [insertNotice, if_neg h]
      exact (ih.cons x).trans (.swap q x xs)

theorem insertNotice_sorted (q : QNotice) {l : List QNotice} (h : (l.map fun q => q.notice.priority).Pairwise (· ≤ ·)) :
    ((insertNotice q l).map fun q => q.notice.priority).Pairwise (· ≤ ·) := by
  induction l with
  | nil => simp [insertNotice]
  | cons x xs ih =>
    rw [List.map_cons, List.pairwise_cons] at h
    obtain ⟨hx, hxs⟩ := h
    by_cases hlt : q.notice.priority < x.notice.priority
    · rw [insertNotice, if_pos hlt, List.map_cons, List.pairwise_cons]
      refine ⟨fun y hy => ?_, List.pairwise_cons.2 ⟨hx, hxs⟩⟩
      rcases List.mem_cons.1 hy with rfl | hy
      · exact hlt.le
      · exact hlt.le.trans (hx y hy)
    · rw [insertNotice, if_neg hlt, List.map_cons, List.pairwise_cons]
      refine ⟨fun y hy => ?_, ih hxs⟩
      obtain ⟨z, hz, rfl⟩ := List.mem_map.1 hy
      rcases mem_insertNotice.1 hz with rfl | hz
      · exact Nat.le_of_not_lt hlt
      · exact hx _ (List.mem_map_of_mem hz)

/-- The USAGE notices of a queue after a notice has joined it. -/
theorem usageCount_cons (q : QNotice) (l : List QNotice) : usageCount (q :: l) = usageCount l + q.notice.isUsage.toNat := by
  unfold usageCount
  cases h : q.notice.isUsage <;> simp [h]

theorem usageCount_perm {l m : List QNotice} (h : l.Perm m) : usageCount l = usageCount m := (h.filter _).length_eq

theorem QueueLawful.sublist {l m : List QNotice} (h : QueueLawful l) (hm : m.Sublist l) : QueueLawful m where
  length := hm.length_le.trans h.length
  usages := (hm.filter _).length_le.trans h.usages
  keys := h.keys.sublist (hm.filterMap _)
  sorted := h.sorted.sublist (hm.map _)

/-- A fresh notice enters a queue that has room for it (R59). -/
theorem QueueLawful.insert {l : List QNotice} {n : Notice} (h : QueueLawful l) (final : Bool) (hf : Fresh n l)
    (hu : n.isUsage = true → usageCount l < Config.usageSlots) (hl : l.length < Config.outboundSlots) :
    QueueLawful (insertNotice (enter n final) l) where
  length := by rw [insertNotice_length]; exact hl
  usages := by
    have hle := h.usages
    rw [usageCount_perm (insertNotice_perm _ _), usageCount_cons]
    cases hn : n.isUsage with
    | false => simpa [enter, hn] using hle
    | true => simpa [enter, hn] using hu hn
  keys := by
    rw [((insertNotice_perm _ _).filterMap _).nodup_iff]
    cases hk : n.key with
    | none => simpa [enter, hk] using h.keys
    | some k =>
      rw [List.filterMap_cons_some (b := k) (by simpa [enter] using hk), List.nodup_cons]
      refine ⟨fun hm => ?_, h.keys⟩
      obtain ⟨q, hq, hqk⟩ := List.mem_filterMap.1 hm
      simpa [hk] using hf q hq (hqk.trans hk.symm)
  sorted := insertNotice_sorted _ h.sorted

/-- A notice takes the place of one that leaves; a USAGE takes that of a USAGE (R60, R61). -/
theorem QueueLawful.exchange {a b : List QNotice} {q : QNotice} {n : Notice} (h : QueueLawful (a ++ q :: b)) (final : Bool)
    (hf : Fresh n (a ++ b)) (hu : n.isUsage = true → q.notice.isUsage = true) : QueueLawful (insertNotice (enter n final) (a ++ b)) := by
  have hperm : (a ++ q :: b).Perm (q :: (a ++ b)) := List.perm_middle
  refine (h.sublist (by simp)).insert final hf (fun hn => ?_) ?_
  · have hle := h.usages
    rw [usageCount_perm hperm, usageCount_cons, hu hn] at hle
    exact hle
  · have hle := h.length
    rw [hperm.length_eq] at hle
    exact hle

/-- A notice changes in its place to one of the same key (R60). -/
theorem QueueLawful.change {a b : List QNotice} {q r : QNotice} (h : QueueLawful (a ++ q :: b)) (hk : r.notice.key = q.notice.key) :
    QueueLawful (a ++ r :: b) where
  length := by simpa using h.length
  usages := by
    have hle := h.usages
    rw [usageCount_perm List.perm_middle, usageCount_cons] at hle ⊢
    rwa [isUsage_of_key hk]
  keys := by simpa [List.filterMap_cons, hk] using h.keys
  sorted := by simpa [priority_of_key hk] using h.sorted

/-! ### The notice in transmission (R49, R60) -/

/-- The notices of a queue that are in transmission. -/
def sendingCount (l : List QNotice) : Nat := (l.filter fun q => q.sending).length

theorem sendingCount_cons (q : QNotice) (l : List QNotice) : sendingCount (q :: l) = sendingCount l + q.sending.toNat := by
  unfold sendingCount
  cases h : q.sending <;> simp [h]

theorem sendingCount_perm {l m : List QNotice} (h : l.Perm m) : sendingCount l = sendingCount m := (h.filter _).length_eq

theorem sendingCount_middle (a b : List QNotice) (q : QNotice) :
    sendingCount (a ++ q :: b) = sendingCount (a ++ b) + q.sending.toNat := by
  rw [sendingCount_perm List.perm_middle, sendingCount_cons]

theorem sendingCount_insertNotice (n : Notice) (final : Bool) (l : List QNotice) :
    sendingCount (insertNotice (enter n final) l) = sendingCount l := by
  rw [sendingCount_perm (insertNotice_perm _ _), sendingCount_cons]
  rfl

theorem sendingCount_eq_zero {l : List QNotice} : sendingCount l = 0 ↔ ∀ q ∈ l, q.sending = false := by
  simp [sendingCount]

/-- The queue with the notice `q` in transmission, the first that is. -/
structure Outbound.SendsAt (o : Outbound) (a : List QNotice) (q : QNotice) (b : List QNotice) : Prop where
  queue : o.queue = a ++ q :: b
  before : ∀ x ∈ a, x.sending = false
  sending : q.sending = true

/-- Either no notice is in transmission, or there is a first one. -/
theorem Outbound.sendsAt_or (o : Outbound) : (∀ q ∈ o.queue, q.sending = false) ∨ ∃ a q b, o.SendsAt a q b := by
  cases h : o.queue.find? fun q => q.sending with
  | none => exact .inl (by simpa using h)
  | some q =>
    obtain ⟨hq, a, b, hl, ha⟩ := List.find?_eq_some_iff_append.1 h
    exact .inr ⟨a, q, b, hl, by simpa using ha, hq⟩

section SendsAt

variable {o : Outbound} {a b : List QNotice} {q : QNotice} (h : o.SendsAt a q b)
include h

theorem Outbound.SendsAt.find : (o.queue.find? fun q => q.sending) = some q := by
  rw [h.queue, find_at h.before h.sending]

theorem Outbound.SendsAt.eraseP : (o.queue.eraseP fun q => q.sending) = a ++ b := by
  rw [h.queue, List.eraseP_append_right _ (by simpa using h.before), List.eraseP_cons_of_pos h.sending]

theorem Outbound.SendsAt.stopSending (f : Nat → Nat) :
    o.stopSending f = { o with queue := a ++ { q with attempts := f q.attempts, sending := false } :: b } := by
  unfold Outbound.stopSending
  rw [h.queue, modifyFirst_at _ h.before h.sending]

end SendsAt

/-- No notice is in transmission: none is stopped. -/
theorem stopSending_of_none {o : Outbound} (h : ∀ q ∈ o.queue, q.sending = false) (f : Nat → Nat) : o.stopSending f = o := by
  unfold Outbound.stopSending
  rw [modifyFirst_of_not _ _ h]

/-- The outbound queue with `k` notices in transmission, a successor being of the key of one of them (R49, R59, R60). -/
structure Outbound.Lawful (k : Nat) (o : Outbound) : Prop where
  queue : QueueLawful o.queue
  sending : sendingCount o.queue = k
  successor : ∀ x, o.successor = some x → ∃ q ∈ o.queue, q.sending = true ∧ q.notice.key = x.notice.key

/-- Without a notice in transmission there is no successor (R60). -/
theorem Outbound.Lawful.no_successor {o : Outbound} (h : o.Lawful 0) : o.successor = none := by
  cases hs : o.successor with
  | none => rfl
  | some x =>
    obtain ⟨q, hq, hsend, -⟩ := h.successor x hs
    simp [sendingCount_eq_zero.1 h.sending q hq] at hsend

/-! ### What the work of the queue can do (R59 to R61) -/

/-- What can happen to the outbound queue while the transmission goes on: a notice is appended, displaces one, is withdrawn or is
replaced (R59 to R61). -/
inductive Outbound.Work (o : Outbound) : Outbound → Prop
  | append (n : Notice) (final : Bool) (fresh : Fresh n o.queue)
      (usages : n.isUsage = true → usageCount o.queue < Config.usageSlots) (room : o.queue.length < Config.outboundSlots) :
      Work o (o.append n final)
  | displace (q : QNotice) (n : Notice) (final : Bool) (queued : q ∈ o.queue) (waits : q.sending = false) (fresh : Fresh n o.queue)
      (usages : n.isUsage = true → q.notice.isUsage = true) :
      Work o (Outbound.append n final { o with queue := o.queue.erase q })
  | withdraw (q : QNotice) (queued : q ∈ o.queue) (waits : q.sending = false) : Work o { o with queue := o.queue.erase q }
  | replace (same : Notice → Bool) (k : NoticeKey) (n : Notice) (final : Bool) (tells : Tells same k) (key : n.key = some k)
      (queued : o.has same = true) : Work o (o.replace same n final)

/-- Any number of such changes, one after another. -/
def Outbound.Works : Outbound → Outbound → Prop := Relation.ReflTransGen Outbound.Work

theorem Outbound.Works.refl (o : Outbound) : o.Works o := Relation.ReflTransGen.refl

theorem Outbound.Work.works {o p : Outbound} (h : o.Work p) : o.Works p := Relation.ReflTransGen.single h

theorem Outbound.Works.trans {o p r : Outbound} (h : o.Works p) (h' : p.Works r) : o.Works r := Relation.ReflTransGen.trans h h'

/-- A notice that is withdrawn leaves the queue's other notices in their places. -/
theorem erase_split {l : List QNotice} {q : QNotice} (h : q ∈ l) : ∃ a b, l = a ++ q :: b ∧ l.erase q = a ++ b := by
  obtain ⟨a, b, -, hl, he⟩ := List.exists_erase_eq h
  exact ⟨a, b, hl, he⟩

/-- A successor stays the successor of a notice that stays in transmission. -/
theorem successor_kept {o p : Outbound} (h : ∀ x, o.successor = some x → ∃ q ∈ o.queue, q.sending = true ∧ q.notice.key = x.notice.key)
    (hs : p.successor = o.successor) (hq : ∀ q ∈ o.queue, q.sending = true → q ∈ p.queue) :
    ∀ x, p.successor = some x → ∃ q ∈ p.queue, q.sending = true ∧ q.notice.key = x.notice.key := by
  intro x hx
  obtain ⟨q, hm, hsend, hk⟩ := h x (hs.symm.trans hx)
  exact ⟨q, hq q hm hsend, hsend, hk⟩

/-- The notices of a queue but one that waits: those in transmission are among them. -/
theorem mem_of_sending {a b : List QNotice} {q x : QNotice} (hq : q.sending = false) (hx : x ∈ a ++ q :: b) (hs : x.sending = true) :
    x ∈ a ++ b := by
  rcases List.mem_append.1 hx with hx | hx
  · exact List.mem_append_left _ hx
  · rcases List.mem_cons.1 hx with rfl | hx
    · simp [hq] at hs
    · exact List.mem_append_right _ hx

/-- The work of the queue keeps its law (R49, R59 to R61). -/
theorem Outbound.Work.lawful {k : Nat} {o p : Outbound} (hw : o.Work p) (h : o.Lawful k) : p.Lawful k := by
  obtain ⟨hq, hsend, hsucc⟩ := h
  cases hw with
  | append n final fresh usages room =>
    exact ⟨hq.insert final fresh usages room, (sendingCount_insertNotice _ _ _).trans hsend,
      successor_kept hsucc rfl fun q hm _ => mem_insertNotice.2 (.inr hm)⟩
  | displace q n final queued waits fresh usages =>
    obtain ⟨a, b, hl, he⟩ := erase_split queued
    rw [hl, sendingCount_middle, waits] at hsend
    have hf : Fresh n (a ++ b) := fresh.sublist (by simp [hl])
    rw [he]
    refine ⟨(hl ▸ hq).exchange final hf usages, (sendingCount_insertNotice _ _ _).trans hsend,
      successor_kept hsucc rfl fun x hm hs => mem_insertNotice.2 (.inr ?_)⟩
    exact mem_of_sending waits (hl ▸ hm) hs
  | withdraw q queued waits =>
    obtain ⟨a, b, hl, he⟩ := erase_split queued
    rw [hl, sendingCount_middle, waits] at hsend
    rw [he]
    exact ⟨hq.sublist (by simp [hl]), hsend, successor_kept hsucc rfl fun x hm hs => mem_of_sending waits (hl ▸ hm) hs⟩
  | replace same key n final tells hkey queued =>
    unfold Outbound.replace
    split
    · rename_i hs
      obtain ⟨q, hm, hqs⟩ := List.any_eq_true.1 hs
      rw [Bool.and_eq_true, tells] at hqs
      obtain ⟨hqk, hqsend⟩ := hqs
      refine ⟨hq, hsend, fun x hx => ?_⟩
      cases hx
      exact ⟨q, hm, hqsend, hqk.trans hkey.symm⟩
    · rename_i hs
      obtain ⟨a, q, b, hl, hqk, -, hm⟩ :=
        modifyFirst_split (fun q : QNotice => same q.notice)
          (fun q => { q with notice := n, attempts := 0, final := final }) (show o.queue.any _ = true from queued)
      have hwaits : q.sending = false := by
        rw [Bool.eq_false_iff]
        intro hqs
        exact hs (List.any_eq_true.2 ⟨q, by simp [hl], by simp [hqk, hqs]⟩)
      rw [hm]
      rw [hl] at hq
      refine ⟨hq.change (hkey.trans ((tells _).1 hqk).symm), ?_, successor_kept hsucc rfl fun x hx hxs => ?_⟩
      · rw [sendingCount_middle, ← hsend, hl, sendingCount_middle]
      · have := mem_of_sending hwaits (hl ▸ hx) hxs
        simp only [List.mem_append, List.mem_cons] at this ⊢
        tauto

theorem Outbound.Works.lawful {k : Nat} {o p : Outbound} (hw : o.Works p) (h : o.Lawful k) : p.Lawful k := by
  induction hw with
  | refl => exact h
  | tail _ hstep ih => exact hstep.lawful ih

/-- The work of the queue keeps it within 8 notices (R59). -/
theorem Outbound.Work.length {o p : Outbound} (hw : o.Work p) (h : o.queue.length ≤ Config.outboundSlots) :
    p.queue.length ≤ Config.outboundSlots := by
  cases hw with
  | append n final fresh usages room =>
    simp only [Outbound.append, insertNotice_length]
    omega
  | displace q n final queued waits fresh usages =>
    have := List.length_pos_of_mem queued
    simp only [Outbound.append, insertNotice_length, List.length_erase_of_mem queued]
    omega
  | withdraw q queued waits => exact List.length_erase_le.trans h
  | replace same key n final tells hkey queued => rwa [replace_length]

theorem Outbound.Works.length {o p : Outbound} (hw : o.Works p) (h : o.queue.length ≤ Config.outboundSlots) :
    p.queue.length ≤ Config.outboundSlots := by
  induction hw with
  | refl => exact h
  | tail _ hstep ih => exact hstep.length ih

/-! ### How a transmission can end (R50, R57, R60) -/

/-- How the transmission can end: the notice leaves, leaves for its successor, or stays queued with its attempts counted or not (R57, R60).
Where no notice is in transmission there is nothing to end. -/
inductive Outbound.Ends (o : Outbound) : Outbound → Prop
  | leaves (a b : List QNotice) (q : QNotice) (sends : o.SendsAt a q b) (alone : o.successor = none) :
      Ends o { queue := a ++ b, successor := none }
  | succeeded (a b : List QNotice) (q : QNotice) (x : Successor) (sends : o.SendsAt a q b) (succ : o.successor = some x) :
      Ends o (Outbound.append x.notice x.final { queue := a ++ b, successor := none })
  | stays (a b : List QNotice) (q : QNotice) (attempts : Nat) (sends : o.SendsAt a q b) (alone : o.successor = none) :
      Ends o { o with queue := a ++ { q with attempts := attempts, sending := false } :: b }
  | nothing (idle : ∀ q ∈ o.queue, q.sending = false) : Ends o o

/-- After the end of the one transmission none is left, and the law holds (R49, R60). -/
theorem Outbound.Ends.lawful {o p : Outbound} (he : o.Ends p) (h : o.Lawful 1) : p.Lawful 0 := by
  have hone : ∀ {a b q}, o.SendsAt a q b → sendingCount (a ++ b) = 0 := by
    intro a b q hs
    have h1 := h.sending
    rw [hs.queue, sendingCount_middle, hs.sending] at h1
    exact Nat.succ.inj h1
  cases he with
  | leaves a b q sends alone =>
    refine ⟨h.queue.sublist (by simp [sends.queue]), hone sends, fun x hx => ?_⟩
    cases hx
  | succeeded a b q x sends succ =>
    obtain ⟨r, hr, hrs, hk⟩ := h.successor x succ
    have hrq : r = q := by
      rw [sends.queue] at hr
      by_contra hne
      have hmem : r ∈ a ++ b := by simpa [hne] using hr
      simp [sendingCount_eq_zero.1 (hone sends) r hmem] at hrs
    subst hrq
    have hlaw : QueueLawful (a ++ r :: b) := sends.queue ▸ h.queue
    refine ⟨hlaw.exchange x.final (fresh_of_removed hlaw hk) fun hu => ?_, (sendingCount_insertNotice _ _ _).trans (hone sends),
      fun x hx => ?_⟩
    · rwa [isUsage_of_key hk]
    · cases hx
  | stays a b q attempts sends alone =>
    have hlaw : QueueLawful (a ++ q :: b) := sends.queue ▸ h.queue
    refine ⟨hlaw.change rfl, ?_, fun x hx => ?_⟩
    · rw [sendingCount_middle, hone sends]
      rfl
    · cases hx.symm.trans alone
  | nothing idle =>
    have h0 := sendingCount_eq_zero.2 idle
    rw [h.sending] at h0
    exact absurd h0 (by decide)

/-- The end of a transmission keeps the queue within 8 notices (R59, R60). -/
theorem Outbound.Ends.length {o p : Outbound} (he : o.Ends p) (h : o.queue.length ≤ Config.outboundSlots) :
    p.queue.length ≤ Config.outboundSlots := by
  cases he with
  | leaves a b q sends alone =>
    rw [sends.queue] at h
    simp only [List.length_append, List.length_cons] at h ⊢
    omega
  | succeeded a b q x sends succ =>
    rw [sends.queue] at h
    simp only [Outbound.append, insertNotice_length, List.length_append, List.length_cons] at h ⊢
    omega
  | stays a b q attempts sends alone =>
    rw [sends.queue] at h
    simpa using h
  | nothing idle => exact h

end Sys2Proof.Machine
end

section
/-! PROOFS. The Duplication Unit's queue, grants and debt within their bounds (R148, R151, R162, R164). -/

namespace Sys2Proof.Machine

/-- A Duplication Unit within a region of `size` entries, its works small and its debt below the largest extent (R148, R151, R162, R164). -/
structure Dup.Lawful (size : Nat) (d : Dup) : Prop where
  entries : d.queue.length + d.inFlight ≤ size
  queued : ∀ q ∈ d.queue, q.work.small = true
  granted : ∀ g ∈ d.grants.filterMap GrantSlot.grant, g.work.small = true
  slots : d.grants.length = 8
  debt : d.debt < Config.maxExtent

variable {size : Nat} {d e : Dup}

/-! ### The queue -/

/-- The queue changes, and the grants stand. -/
theorem Dup.Lawful.withQueue (h : d.Lawful size) (hg : e.grants = d.grants) (hl : e.queue.length ≤ d.queue.length)
    (hs : ∀ q ∈ e.queue, q.work.small = true) (hd : e.debt ≤ d.debt) : e.Lawful size where
  entries := by
    have := h.entries
    unfold Dup.inFlight at this ⊢
    rw [hg]
    omega
  queued := hs
  granted := by rw [hg]; exact h.granted
  slots := by rw [hg]; exact h.slots
  debt := Nat.lt_of_le_of_lt hd h.debt

/-- Entries leave the queue (R123, R163). -/
theorem Dup.Lawful.sublist (h : d.Lawful size) {l : List DupEntry} (hl : l.Sublist d.queue) : ({ d with queue := l } : Dup).Lawful size :=
  h.withQueue rfl hl.length_le (fun q hq => h.queued q (hl.subset hq)) le_rfl

/-- A free entry is taken (R149, R152 to R154). -/
theorem Dup.Lawful.append (h : d.Lawful size) {w : DupWork} (hw : w.small = true) (hf : size - d.queue.length - d.inFlight ≠ 0) :
    (d.append w).Lawful size where
  entries := by
    change (d.queue ++ [_]).length + d.inFlight ≤ size
    rw [List.length_append, List.length_singleton]
    omega
  queued := by
    intro q hq
    rcases List.mem_append.1 hq with hq | hq
    · exact h.queued q hq
    · rw [List.mem_singleton.1 hq]
      exact hw
  granted := h.granted
  slots := h.slots
  debt := h.debt

theorem absorb_small {units : Nat} {q : DupEntry} (hu : units ≤ Config.maxExtent) (hq : q.work.small = true) :
    (absorb units q).work.small = true := by
  unfold absorb
  split
  · rename_i e t own hw
    have hown : own ≤ Config.maxExtent := by simpa [hw, DupWork.small, DupWork.units] using hq
    simpa [DupWork.small, DupWork.units] using And.intro hown hu
  · exact hq
  · exact hq

/-- A figure is absorbed into a queued EXTENT (R152, R168). -/
theorem Dup.Lawful.absorb (h : d.Lawful size) (p : DupEntry → Bool) {units : Nat} (hu : units ≤ Config.maxExtent) :
    ({ d with queue := modifyFirst p (Machine.absorb units) d.queue } : Dup).Lawful size := by
  refine h.withQueue rfl (by simp) (fun q hq => ?_) le_rfl
  rcases mem_modifyFirst _ _ hq with hq | ⟨r, hr, -, rfl⟩
  · exact h.queued q hq
  · exact absorb_small hu (h.queued r hr)

/-! ### The window -/

/-- A closing re-marks entries and keeps the debt (R157). -/
theorem Dup.Lawful.closed (h : d.Lawful size) : d.closed.Lawful size := by
  refine h.withQueue rfl (by simp [Dup.closed]) (fun q hq => ?_) le_rfl
  obtain ⟨r, hr, rfl⟩ := List.mem_map.1 hq
  have := h.queued r hr
  split <;> exact this

/-- An opening clears the debt (R155). -/
theorem Dup.Lawful.opened (h : d.Lawful size) (limit share : Nat) : ((d.opened limit).withShare share).Lawful size :=
  h.withQueue rfl le_rfl h.queued (Nat.zero_le _)

/-- A boundary repays debt (R160). -/
theorem Dup.Lawful.newFrame (h : d.Lawful size) (capacity peerTotal timer : Nat) : (d.newFrame capacity peerTotal timer).Lawful size :=
  h.withQueue rfl le_rfl h.queued (Nat.sub_le _ _)

/-! ### Grants -/

/-- The slots that hold a grant, after a write to one of them. -/
theorem grants_set_count (l : List GrantSlot) (i : Nat) (x : GrantSlot) (hi : i < l.length) :
    ((l.set i x).filter fun g => g.grant.isSome).length + l[i].grant.isSome.toNat =
      (l.filter fun g => g.grant.isSome).length + x.grant.isSome.toNat := by
  induction l generalizing i with
  | nil => simp at hi
  | cons y ys ih =>
    cases i with
    | zero => cases hx : x.grant.isSome <;> cases hy : y.grant.isSome <;> simp [hx, hy]
    | succ i =>
      have := ih i (by simpa using hi)
      cases hy : y.grant.isSome
      · simpa [hy] using this
      · simp only [List.set_cons_succ, List.filter_cons, hy, if_true, List.length_cons, List.getElem_cons_succ]
        omega

/-- The works of the grants after a write to a slot: those of the others, and the one written. -/
theorem grants_set_mem {l : List GrantSlot} {i : Nat} {x : GrantSlot} {g : Grant} (h : g ∈ (l.set i x).filterMap GrantSlot.grant) :
    g ∈ l.filterMap GrantSlot.grant ∨ x.grant = some g := by
  obtain ⟨y, hy, hg⟩ := List.mem_filterMap.1 h
  rcases List.mem_or_eq_of_mem_set hy with hy | rfl
  · exact .inl (List.mem_filterMap.2 ⟨y, hy, hg⟩)
  · exact .inr hg

/-- A small extent that is granted leaves a debt below the largest extent: a debt arises only where units remain (R164). -/
theorem charge_debt {units : Nat} (h : d.charge units = some e) (hu : units ≤ Config.maxExtent) (hd : d.debt < Config.maxExtent) :
    e.queue = d.queue ∧ e.grants = d.grants ∧ e.debt < Config.maxExtent := by
  unfold Dup.charge at h
  split at h
  · cases h
    exact ⟨rfl, rfl, hd⟩
  · split at h
    · rename_i hfull
      cases h
      refine ⟨rfl, rfl, ?_⟩
      change units - d.remaining < Config.maxExtent
      omega
    · cases h

/-- The head of the queue takes a FREE slot (R165). -/
theorem Dup.Lawful.grant (h : d.Lawful size) {q : DupEntry} {rest : List DupEntry} {charged : Dup} {i : Fin 8} {gen : Fin 8} {g : Grant}
    (hq : d.queue = q :: rest) (hfree : (d.grants.getD i.val { gen := 0, grant := none }).grant = none) (hc : charged.grants = d.grants)
    (hd : charged.debt < Config.maxExtent) (hg : g.work = q.work) :
    ({ charged with queue := rest, grants := charged.grants.set i.val { gen := gen, grant := some g } } : Dup).Lawful size := by
  have hi : i.val < d.grants.length := by rw [h.slots]; exact i.isLt
  have hcount := grants_set_count d.grants i.val { gen := gen, grant := some g } hi
  rw [List.getD_eq_getElem _ _ hi] at hfree
  rw [hfree] at hcount
  have hent := h.entries
  refine ⟨?_, fun r hr => h.queued r (by simp [hq, hr]), fun x hx => ?_, by simp [hc, h.slots], hd⟩
  · unfold Dup.inFlight at hent ⊢
    simp only [hq, hc, List.length_cons] at hent ⊢
    simp only [Option.isSome_none, Option.isSome_some, Bool.toNat_false, Bool.toNat_true] at hcount
    omega
  · rw [hc] at hx
    rcases grants_set_mem hx with hx | hx
    · exact h.granted x hx
    · cases hx
      rw [hg]
      exact h.queued q (by simp [hq])

/-- The Duplication Unit with a slot FREE (R166, R167). -/
def Dup.freed (i : Fin 8) (d : Dup) : Dup :=
  { d with grants := d.grants.set i.val { gen := (d.grants.getD i.val { gen := 0, grant := none }).gen, grant := none } }

section Freed

variable {i : Fin 8} {g : Grant} (h : d.Lawful size) (hg : (d.grants.getD i.val { gen := 0, grant := none }).grant = some g)
include h hg

theorem Dup.Lawful.grant_small : g.work.small = true := by
  have hi : i.val < d.grants.length := by rw [h.slots]; exact i.isLt
  rw [List.getD_eq_getElem _ _ hi] at hg
  exact h.granted g (List.mem_filterMap.2 ⟨_, List.getElem_mem hi, hg⟩)

/-- A grant that leaves its slot leaves room for one entry (R166 to R168). -/
theorem Dup.Lawful.freed_entries : (d.freed i).queue.length + (d.freed i).inFlight + 1 ≤ size := by
  have hi : i.val < d.grants.length := by rw [h.slots]; exact i.isLt
  have hent := h.entries
  have hcount := grants_set_count d.grants i.val
    { gen := (d.grants.getD i.val { gen := 0, grant := none }).gen, grant := none } hi
  rw [List.getD_eq_getElem _ _ hi] at hg
  rw [hg] at hcount
  simp only [Option.isSome_none, Option.isSome_some, Bool.toNat_false, Bool.toNat_true] at hcount
  simp only [Dup.freed, Dup.inFlight] at hent ⊢
  omega

theorem Dup.Lawful.freed : (d.freed i).Lawful size where
  entries := Nat.le_of_succ_le (h.freed_entries hg)
  queued := h.queued
  granted := by
    intro x hx
    rcases grants_set_mem hx with hx | hx
    · exact h.granted x hx
    · cases hx
  slots := by simpa [Dup.freed] using h.slots
  debt := h.debt

/-- The freed grant's work goes back to the head of the queue (R168). -/
theorem Dup.Lawful.requeued (parity : Bool) (retries : Nat) :
    ({ d.freed i with queue := { work := g.work, parity := parity, retries := retries } :: (d.freed i).queue } : Dup).Lawful size where
  entries := by
    have := h.freed_entries hg
    change (_ :: (d.freed i).queue).length + (d.freed i).inFlight ≤ size
    rw [List.length_cons]
    omega
  queued := by
    intro q hq
    rcases List.mem_cons.1 hq with rfl | hq
    · exact h.grant_small hg
    · exact h.queued q hq
  granted := (h.freed hg).granted
  slots := (h.freed hg).slots
  debt := h.debt

end Freed

end Sys2Proof.Machine
end

section
/-! PROOFS. What any step can do to the sizes and the notices of the machine: the kinds of change, and what each keeps (R1, R21, R49, R53, R59 to R63,
R68, R117, R133, R148, R162, R164). -/

namespace Sys2Proof.Machine

/-! ### The part of the state whose bounds are stated -/

/-- The numbers of records in use, the Duplication Unit, and the notices of both directions with the line. -/
structure Stock where
  running : Bool
  cfg : Option Settings
  users : Nat
  holds : Nat
  watch : Nat
  peers : Nat
  jobs : Nat
  dup : Dup
  out : Outbound
  line : Line
  recv : List RxNotice

/-- The stock of a state. -/
def State.stock (s : State) : Stock where
  running := s.link.running
  cfg := s.cfg
  users := s.users.length
  holds := s.holds.length
  watch := s.watch.length
  peers := s.peers.length
  jobs := s.jobs.length
  dup := s.dup
  out := s.out
  line := s.line
  recv := s.recv

/-- The configured values as the blocks read them. -/
def Stock.settings (s : Stock) : Settings := s.cfg.getD unconfiguredSettings

/-- A frame is received in BUSY alone (R63). -/
def Line.Proper (l : Line) : Prop := l.state ≠ .busy .frame → l.rx = .noFrame

/-- The kinds of change that a step makes to the stock. A change of records, holds, watched users or duplication work is bound only to stay
within its own limits; the changes of the notices and the line are those of R49 to R66. -/
inductive Stock.Move (s : Stock) : Stock → Prop
  | users (n : Nat) (within : s.users ≤ s.settings.userRecords → n ≤ s.settings.userRecords) : Move s { s with users := n }
  | holds (n : Nat) (within : s.holds ≤ s.settings.holdRecords → n ≤ s.settings.holdRecords) : Move s { s with holds := n }
  | watch (n : Nat) (within : s.watch ≤ Config.watchSlots → n ≤ Config.watchSlots) : Move s { s with watch := n }
  | dup (d : Dup) (within : s.dup.Lawful s.settings.dupEntries → d.Lawful s.settings.dupEntries) : Move s { s with dup := d }
  /-- Every block at its power-on value (R191). -/
  | power : Move s State.reset.stock
  /-- A CONFIGURE is accepted before the station runs (R189). -/
  | configured (c : Settings) (waits : s.running = false) :
      Move s { s with running := true, cfg := some c, line := { state := .busy .attachment, rx := .noFrame, sendBits := [] } }
  /-- The outbound queue's work (R59 to R61). -/
  | work (o : Outbound) (work : s.out.Work o) : Move s { s with out := o }
  /-- Own start (R49). -/
  | sends (q : QNotice) (rest : List QNotice) (bits : List Bool) (idle : s.line.state = .idle) (head : s.out.queue = q :: rest) :
      Move s { s with
        out := { s.out with queue := { q with sending := true } :: rest }
        line := { state := .sending, rx := .noFrame, sendBits := bits } }
  /-- The transmission ends with or without its stop, and the line goes on to another state (R50, R51, R57, R65). -/
  | transmissionEnds (o p : Outbound) (l : Line) (sending : s.line.state = .sending) (ends : s.out.Ends o) (works : o.Works p)
      (next : l.state ≠ .sending) (proper : l.Proper) : Move s { s with out := p, line := l }
  /-- A verdict or the end of a stretch that takes no notice (R53, R55). -/
  | judged (x : Rx) (frame : s.line.rx ≠ .noFrame) (untaken : s.line.rx ≠ .judged (some .slotA)) :
      Move s { s with line := { s.line with rx := x } }
  /-- A notice is taken into the receive queue (R53, R55). -/
  | taken (r : RxNotice) (frame : s.line.rx ≠ .noFrame) (room : s.recv.length < Config.receiveSlots) :
      Move s { s with recv := s.recv ++ [r], line := { s.line with rx := .judged (some .slotA) } }
  /-- A received notice is handled (R62). -/
  | handled (l : List RxNotice) (sublist : l.Sublist s.recv) : Move s { s with recv := l }
  /-- The line leaves a state in which it measures and does not send, with every received notice available (R52, R54, R62 to R64). -/
  | cleared (l : Line) (r : List RxNotice)
      (free : s.line.state = .sending ∨ s.line.state = .detached → s.line.rx ≠ .noFrame ∨ ∃ x ∈ s.recv, x.available = false)
      (next : l.state ≠ .sending) (proper : l.Proper) (length : r.length ≤ s.recv.length) (available : ∀ x ∈ r, x.available = true) :
      Move s { s with recv := r, line := l }
  /-- The line leaves such a state where no frame is received (R46, R63, R64, R66). -/
  | changed (l : Line) (sending : s.line.state ≠ .sending) (detached : s.line.state ≠ .detached)
      (quiet : s.line.state = .busy .frame → s.line.rx = .noFrame) (next : l.state ≠ .sending) (proper : l.Proper) :
      Move s { s with line := l }

/-- The state `t` has a stock that changes of these kinds make of that of `s`. -/
def State.Reaches (s t : State) : Prop := Relation.ReflTransGen Stock.Move s.stock t.stock

variable {s t u : State}

theorem State.Reaches.of_stock (h : t.stock = s.stock) : s.Reaches t := by
  unfold State.Reaches
  rw [h]

theorem State.Reaches.refl (s : State) : s.Reaches s := .of_stock rfl

theorem State.Reaches.trans (h : s.Reaches t) (h' : t.Reaches u) : s.Reaches u := Relation.ReflTransGen.trans h h'

theorem State.Reaches.move (h : s.stock.Move t.stock) : s.Reaches t := Relation.ReflTransGen.single h

/-- A property that every kind of change keeps. -/
theorem State.Reaches.keeps {P : Stock → Prop} (hP : ∀ a b : Stock, a.Move b → P a → P b) (h : s.Reaches t) (hs : P s.stock) :
    P t.stock := by
  unfold State.Reaches at h
  generalize t.stock = b at h
  induction h with
  | refl => exact hs
  | tail _ hstep ih => exact hP _ _ hstep ih

/-- The work of the outbound queue, where the rest of the stock stands. -/
theorem State.Reaches.of_works (h : s.out.Works t.out) (ht : t.stock = { s.stock with out := t.out }) : s.Reaches t := by
  unfold State.Reaches
  rw [ht]
  generalize t.out = p at h
  induction h with
  | refl => exact .refl
  | tail _ hstep ih => exact ih.tail (.work (s := { s.stock with out := _ }) _ hstep)

/-! ### Queues, tables and sizes -/

/-- The queues, tables and regions within their sizes (R1, R21, R59, R62, R68, R117, R133, R148, R151, R162, R164). -/
structure Stock.Sized (s : Stock) : Prop where
  out : s.out.queue.length ≤ Config.outboundSlots
  recv : s.recv.length ≤ Config.receiveSlots
  peers : s.peers = 16
  jobs : s.jobs = 8
  watch : s.watch ≤ Config.watchSlots
  unconfigured : s.running = false → s.cfg = none
  users : s.users ≤ s.settings.userRecords
  holds : s.holds ≤ s.settings.holdRecords
  dup : s.dup.Lawful s.settings.dupEntries

theorem sized_iff : s.stock.Sized ↔ s.queuesLawful ∧ s.tablesLawful ∧ s.sizesLawful := by
  constructor
  · intro h
    exact ⟨⟨h.out, h.recv⟩, ⟨h.peers, h.jobs, h.dup.slots, h.watch⟩,
      h.unconfigured, h.users, h.holds, h.dup.entries, h.dup.queued, h.dup.granted, h.dup.debt⟩
  · rintro ⟨⟨hout, hrecv⟩, ⟨hpeers, hjobs, hslots, hwatch⟩, hcfg, husers, hholds, hentries, hqueued, hgranted, hdebt⟩
    exact ⟨hout, hrecv, hpeers, hjobs, hwatch, hcfg, husers, hholds, ⟨hentries, hqueued, hgranted, hslots, hdebt⟩⟩

/-- A greater region holds what a smaller one held. -/
theorem Dup.Lawful.mono {m n : Nat} {d : Dup} (h : d.Lawful m) (hmn : m ≤ n) : d.Lawful n :=
  ⟨h.entries.trans hmn, h.queued, h.granted, h.slots, h.debt⟩

theorem reset_sized : State.reset.stock.Sized where
  out := Nat.zero_le _
  recv := Nat.zero_le _
  peers := rfl
  jobs := rfl
  watch := Nat.zero_le _
  unconfigured _ := rfl
  users := Nat.zero_le _
  holds := Nat.zero_le _
  dup := ⟨by decide, by decide, by decide, by decide, by decide⟩

/-- Every kind of change keeps the sizes. -/
theorem Stock.Move.sized {a b : Stock} (hm : a.Move b) (h : a.Sized) : b.Sized := by
  obtain ⟨hout, hrecv, hpeers, hjobs, hwatch, hcfg, husers, hholds, hdup⟩ := h
  cases hm with
  | users n within => exact ⟨hout, hrecv, hpeers, hjobs, hwatch, hcfg, within husers, hholds, hdup⟩
  | holds n within => exact ⟨hout, hrecv, hpeers, hjobs, hwatch, hcfg, husers, within hholds, hdup⟩
  | watch n within => exact ⟨hout, hrecv, hpeers, hjobs, within hwatch, hcfg, husers, hholds, hdup⟩
  | dup d within => exact ⟨hout, hrecv, hpeers, hjobs, hwatch, hcfg, husers, hholds, within hdup⟩
  | power => exact reset_sized
  | configured c waits =>
    have hzero : a.settings = unconfiguredSettings := by rw [Stock.settings, hcfg waits, Option.getD_none]
    rw [hzero] at husers hholds hdup
    exact ⟨hout, hrecv, hpeers, hjobs, hwatch, nofun, husers.trans (Nat.zero_le _), hholds.trans (Nat.zero_le _),
      hdup.mono (Nat.zero_le _)⟩
  | work o work => exact ⟨work.length hout, hrecv, hpeers, hjobs, hwatch, hcfg, husers, hholds, hdup⟩
  | sends q rest bits idle head =>
    rw [head] at hout
    exact ⟨hout, hrecv, hpeers, hjobs, hwatch, hcfg, husers, hholds, hdup⟩
  | transmissionEnds o p l sending ends works next proper =>
    exact ⟨works.length (ends.length hout), hrecv, hpeers, hjobs, hwatch, hcfg, husers, hholds, hdup⟩
  | judged x frame untaken => exact ⟨hout, hrecv, hpeers, hjobs, hwatch, hcfg, husers, hholds, hdup⟩
  | taken r frame room => exact ⟨hout, by simpa using room, hpeers, hjobs, hwatch, hcfg, husers, hholds, hdup⟩
  | handled l sublist => exact ⟨hout, sublist.length_le.trans hrecv, hpeers, hjobs, hwatch, hcfg, husers, hholds, hdup⟩
  | cleared l r free next proper length available =>
    exact ⟨hout, length.trans hrecv, hpeers, hjobs, hwatch, hcfg, husers, hholds, hdup⟩
  | changed l sending detached quiet next proper => exact ⟨hout, hrecv, hpeers, hjobs, hwatch, hcfg, husers, hholds, hdup⟩

/-! ### Notices and the line -/

/-- The notices in transmission that a line state asks for (R49). -/
def LineState.transmissions (x : LineState) : Nat := if x = .sending then 1 else 0

/-- The notices of both directions agree with the line (R49, R53, R59, R60, R62, R63). -/
structure Stock.Noticed (s : Stock) : Prop where
  out : s.out.Lawful s.line.state.transmissions
  proper : s.line.Proper
  taken : ∀ r ∈ s.recv, r.available = false → s.line.rx = .judged (some .slotA)
  detached : s.running = false → s.line.state = .detached

theorem noticed_iff : s.stock.Noticed ↔ s.noticesLawful := by
  constructor
  · rintro ⟨⟨⟨hlen, husage, hkeys, hsorted⟩, hsend, hsucc⟩, hproper, htaken, hdet⟩
    exact ⟨⟨hlen, husage, hkeys, hsorted⟩, ⟨hsend, hsucc⟩, hproper, htaken, hdet⟩
  · rintro ⟨⟨hlen, husage, hkeys, hsorted⟩, ⟨hsend, hsucc⟩, hproper, htaken, hdet⟩
    exact ⟨⟨⟨hlen, husage, hkeys, hsorted⟩, hsend, hsucc⟩, hproper, htaken, hdet⟩

theorem transmissions_of_ne {x : LineState} (h : x ≠ .sending) : x.transmissions = 0 := if_neg h

section Noticed

variable {a : Stock} (h : a.Noticed)
include h

/-- Where no frame is received every notice received is available (R53, R62). -/
theorem Stock.Noticed.available (hrx : a.line.rx ≠ .judged (some .slotA)) : ∀ r ∈ a.recv, r.available = true := by
  intro r hr
  by_contra hn
  exact hrx (h.taken r hr (by simpa using hn))

/-- A frame in reception: the line is BUSY with it (R63). -/
theorem Stock.Noticed.busy (hrx : a.line.rx ≠ .noFrame) : a.line.state = .busy .frame := by
  by_contra hn
  exact hrx (h.proper hn)

/-- A notice that is not yet available: its frame is still in reception (R53, R62). -/
theorem Stock.Noticed.inFrame {r : RxNotice} (hr : r ∈ a.recv) (hn : r.available = false) : a.line.rx ≠ .noFrame := by
  rw [h.taken r hr hn]
  exact nofun

/-- The station runs wherever the line is not DETACHED (R63, R67). -/
theorem Stock.Noticed.runs (hl : a.line.state ≠ .detached) : a.running ≠ false := fun hr => hl (h.detached hr)

/-- After the line has moved on to a state in which it does not send, with every notice available. -/
theorem Stock.Noticed.withLine {o : Outbound} {l : Line} {r : List RxNotice} (ho : o.Lawful 0) (hrun : a.line.state ≠ .detached)
    (hnext : l.state ≠ .sending) (hproper : l.Proper) (hr : ∀ x ∈ r, x.available = true) :
    ({ a with out := o, line := l, recv := r } : Stock).Noticed where
  out := by
    change o.Lawful l.state.transmissions
    rwa [transmissions_of_ne hnext]
  proper := hproper
  taken x hx hn := by simp [hr x hx] at hn
  detached hf := absurd hf (h.runs hrun)

end Noticed

theorem reset_noticed : State.reset.stock.Noticed where
  out := ⟨⟨by decide, by decide, by decide, by decide⟩, by decide, by simp [State.stock, State.reset, State.powerOn]⟩
  proper _ := rfl
  taken := by simp [State.stock, State.reset, State.powerOn]
  detached _ := rfl

/-- Every kind of change keeps the notices in agreement with the line. -/
theorem Stock.Move.noticed {a b : Stock} (hm : a.Move b) (h : a.Noticed) : b.Noticed := by
  have hnot : a.line.state ≠ .sending → a.out.Lawful 0 := fun hs => transmissions_of_ne hs ▸ h.out
  cases hm with
  | users n within => exact ⟨h.out, h.proper, h.taken, h.detached⟩
  | holds n within => exact ⟨h.out, h.proper, h.taken, h.detached⟩
  | watch n within => exact ⟨h.out, h.proper, h.taken, h.detached⟩
  | dup d within => exact ⟨h.out, h.proper, h.taken, h.detached⟩
  | power => exact reset_noticed
  | configured c waits =>
    have hdet := h.detached waits
    have hrx : a.line.rx = .noFrame := h.proper (by simp [hdet])
    refine ⟨hnot (by simp [hdet]), fun _ => rfl, fun r hr hn => ?_, nofun⟩
    exact absurd hrx (h.inFrame hr hn)
  | work o work => exact ⟨work.lawful h.out, h.proper, h.taken, h.detached⟩
  | sends q rest bits idle head =>
    have hlaw := hnot (by simp [idle])
    have hrx : a.line.rx = .noFrame := h.proper (by simp [idle])
    have hzero := hlaw.sending
    have hq := hlaw.queue
    rw [head] at hzero hq
    refine ⟨⟨hq.change (a := []) rfl, ?_, fun x hx => ?_⟩, fun _ => rfl, fun r hr hn => ?_, fun hf => ?_⟩
    · rw [sendingCount_cons] at hzero
      rw [sendingCount_cons, Nat.eq_zero_of_add_eq_zero_right hzero]
      rfl
    · cases hx.symm.trans hlaw.no_successor
    · exact absurd hrx (h.inFrame hr hn)
    · exact absurd hf (h.runs (by simp [idle]))
  | transmissionEnds o p l sending ends works next proper =>
    have hone : a.out.Lawful 1 := by simpa [sending, LineState.transmissions] using h.out
    have hrx : a.line.rx = .noFrame := h.proper (by simp [sending])
    exact h.withLine (works.lawful (ends.lawful hone)) (by simp [sending]) next proper (h.available (by simp [hrx]))
  | judged x frame untaken =>
    refine ⟨h.out, fun hn => absurd (h.busy frame) hn, fun r hr hn => ?_, h.detached⟩
    exact absurd (h.taken r hr hn) untaken
  | taken r frame room => exact ⟨h.out, fun hn => absurd (h.busy frame) hn, fun _ _ _ => rfl, h.detached⟩
  | handled l sublist => exact ⟨h.out, h.proper, fun r hr => h.taken r (sublist.subset hr), h.detached⟩
  | cleared l r free next proper length available =>
    have hframe : a.line.state = .sending ∨ a.line.state = .detached → a.line.state = .busy .frame := by
      intro hs
      rcases free hs with hrx | ⟨x, hx, hn⟩
      · exact h.busy hrx
      · exact h.busy (h.inFrame hx hn)
    refine h.withLine (hnot fun hs => ?_) (fun hd => ?_) next proper available
    · simpa [hs] using hframe (.inl hs)
    · simpa [hd] using hframe (.inr hd)
  | changed l sending detached quiet next proper =>
    have hrx : a.line.rx = .noFrame := by
      by_cases hf : a.line.state = .busy .frame
      · exact quiet hf
      · exact h.proper hf
    exact h.withLine (hnot sending) detached next proper (h.available (by simp [hrx]))

end Sys2Proof.Machine
end

section
/-! PROOFS. What the shared operations, the outbound queue's work and the follow-on steps do to the stock (R36, R37, R55, R58 to R61, R72, R85,
R110, R111, R141, R157, R160). -/

namespace Sys2Proof.Machine

variable {s t u : State}

/-! ### One part of the stock changes -/

theorem State.Reaches.of_users (h : s.users.length ≤ s.settings.userRecords → t.users.length ≤ s.settings.userRecords)
    (ht : t.stock = { s.stock with users := t.users.length }) : s.Reaches t :=
  .move (ht ▸ .users t.users.length h)

theorem State.Reaches.of_holds (h : s.holds.length ≤ s.settings.holdRecords → t.holds.length ≤ s.settings.holdRecords)
    (ht : t.stock = { s.stock with holds := t.holds.length }) : s.Reaches t :=
  .move (ht ▸ .holds t.holds.length h)

theorem State.Reaches.of_watch (h : s.watch.length ≤ Config.watchSlots → t.watch.length ≤ Config.watchSlots)
    (ht : t.stock = { s.stock with watch := t.watch.length }) : s.Reaches t :=
  .move (ht ▸ .watch t.watch.length h)

theorem State.Reaches.of_dup (d : Dup) (h : s.dup.Lawful s.settings.dupEntries → d.Lawful s.settings.dupEntries)
    (ht : t.stock = { s.stock with dup := d }) : s.Reaches t :=
  .move (ht ▸ .dup d h)

/-! ### The shared operations -/

@[simp] theorem commit_stock (old new : UserRec) : (s.commit old new).stock = s.stock := by
  simp [State.stock, State.commit]

@[simp] theorem setDue_stock (n : Nat) : (s.setDue n).stock = s.stock := by simp [State.stock, State.setDue]

@[simp] theorem clearDue_stock (n : Nat) : (s.clearDue n).stock = s.stock := by simp [State.stock, State.clearDue]

@[simp] theorem putState_stock (v : UserRec) (x : UserState) : (s.putState v x).stock = s.stock := by
  simp [State.stock, State.putState]

@[simp] theorem setPeer_stock (st : Station) (p : PeerEntry) : (s.setPeer st p).stock = s.stock := by simp [State.stock]

@[simp] theorem setJob_stock (i : Fin 8) (x : JobSlot) : (s.setJob i x).stock = s.stock := by simp [State.stock]

@[simp] theorem raise_stock (k : CauseKind) (b : Subject) (v : Option CauseValue) : (s.raise k b v).stock = s.stock := rfl

@[simp] theorem modifyEpoch_stock (e : Epoch) (f : CatEntry → CatEntry) : (s.modifyEpoch e f).stock = s.stock := rfl

@[simp] theorem answer_stock (x : Status) (c : Byte) (m : Bool) (b : ReplyBody) : (s.answer x c m b).stock = s.stock := rfl

@[simp] theorem modifyWorkEpoch_stock (w : DupWork) (f : CatEntry → CatEntry) : (s.modifyWorkEpoch w f).stock = s.stock := by
  unfold State.modifyWorkEpoch
  split <;> rfl

theorem withLink_stock {l : Link} (h : l.running = s.link.running) : ({ s with link := l } : State).stock = s.stock := by
  simp [State.stock, h]

theorem freeUser_reaches (n : Nat) : s.Reaches (s.freeUser n) :=
  (State.Reaches.of_users (t := { s with users := s.users.eraseP fun r => r.user == n }) (List.length_eraseP_le.trans ·) rfl).trans
    (.of_watch ((List.length_filter_le _ _).trans ·) rfl)

/-! ### The outbound queue -/

/-- From `s` to `t` only the outbound queue worked (R59 to R61). -/
structure State.QueueWorks (s t : State) : Prop where
  works : s.out.Works t.out
  stock : t.stock = { s.stock with out := t.out }

theorem State.QueueWorks.of_stock (h : t.stock = s.stock) : s.QueueWorks t := by
  have ho : t.out = s.out := congrArg Stock.out h
  exact ⟨ho ▸ .refl _, by rw [h, ho]; rfl⟩

theorem State.QueueWorks.trans (h : s.QueueWorks t) (h' : t.QueueWorks u) : s.QueueWorks u :=
  ⟨h.works.trans h'.works, by rw [h'.stock, h.stock]⟩

/-- What the queue does from a state with the same stock. -/
theorem State.QueueWorks.after (h : t.QueueWorks u) (hs : t.stock = s.stock) : s.QueueWorks u := (State.QueueWorks.of_stock hs).trans h

theorem State.QueueWorks.reaches (h : s.QueueWorks t) : s.Reaches t := .of_works h.works h.stock

@[simp] theorem depart_stock (q : QNotice) (e : NoticeEnd) : (s.depart q e).stock = s.stock := by
  by_cases hq : q.notice.isUsage = true
  · obtain ⟨user, x, hn⟩ : ∃ user x, q.notice = .usage user x := by
      cases hn : q.notice <;> simp [hn, Notice.isUsage] at hq ⊢
    by_cases hr : q.final = true ∧ s.isRetiring user = true
    · rw [depart_retiring hn hr]
      cases e with
      | displaced => exact (setDue_stock user : (s.restartGap.setDue user).stock = s.restartGap.stock)
      | _ => rfl
    · rw [depart_ordinary hn hr]
      cases e with
      | dropped => cases q.final <;> rfl
      | _ => rfl
  · rw [depart_of_not_usage (by simpa using hq)]

/-- A notice whose key no queued notice has is fresh. -/
theorem fresh_of_not_has {same : Notice → Bool} {k : NoticeKey} {n : Notice} {o : Outbound} (hs : Tells same k) (hn : n.key = some k)
    (h : o.has same = false) : Fresh n o.queue := by
  intro q hq hk
  have hq' : same q.notice = true := (hs _).2 (hk.trans hn)
  have : o.has same = true := List.any_eq_true.2 ⟨q, hq, hq'⟩
  simp [h] at this

/-- An offer of USAGE, SHARE or PRESENCE (R59, R60). -/
theorem offer_works {same : Notice → Bool} {k : NoticeKey} {room : Bool} {n : Notice} (o : Outbound) (hs : Tells same k)
    (hn : n.key = some k) (hu : room = true → n.isUsage = true → usageCount o.queue < Config.usageSlots)
    (hl : room = true → o.queue.length < Config.outboundSlots) : o.Works (o.offer same room n) := by
  unfold Outbound.offer
  split
  · exact (Outbound.Work.replace same k n false hs hn ‹_›).works
  · split
    · rename_i hhas hroom
      exact (Outbound.Work.append n false (fresh_of_not_has hs hn (by simpa using hhas)) (hu hroom) (hl hroom)).works
    · exact .refl _

theorem offerUsage_works (user units : Nat) : s.QueueWorks (s.offerUsage user units) where
  works := by
    have hroom : usageRoom s.out.queue = true → usageCount s.out.queue < Config.usageSlots ∧ s.out.queue.length < Config.outboundSlots := by
      simp [usageRoom]
    exact offer_works _ (tells_usage user) rfl (fun h _ => (hroom h).1) fun h => (hroom h).2
  stock := rfl

theorem offerShare_works (b : Nat) : s.QueueWorks (s.offerShare b) where
  works := offer_works _ tells_share rfl (fun _ => nofun) of_decide_eq_true
  stock := rfl

theorem offerPresence_works : s.QueueWorks s.offerPresence where
  works := offer_works _ tells_presence rfl (fun _ => nofun) of_decide_eq_true
  stock := rfl

/-- The placing of a final notice (R35). -/
theorem placeFinal_works {n : Nat} (h : s.placeFinal n = some t) : s.QueueWorks t := by
  unfold State.placeFinal at h
  split at h
  · rename_i hhas
    cases h
    exact ⟨(Outbound.Work.replace _ _ _ true (tells_usage n) rfl hhas).works, rfl⟩
  · rename_i hhas
    have hfresh : Fresh (.usage n 0) s.out.queue := fresh_of_not_has (tells_usage n) rfl (by simpa using hhas)
    split at h
    · rename_i hroom
      cases h
      have hr : usageCount s.out.queue < Config.usageSlots ∧ s.out.queue.length < Config.outboundSlots := by
        simpa [usageRoom] using hroom
      exact ⟨(Outbound.Work.append _ true hfresh (fun _ => hr.1) hr.2).works, rfl⟩
    · split at h
      · cases h
      · rename_i q hq
        cases h
        have hm : q ∈ s.out.queue := by simpa using List.mem_of_find?_eq_some hq
        obtain ⟨hwait, v, x, hn, -⟩ := finalMayDisplace_iff.1 (List.find?_some hq)
        have hd : s.QueueWorks { s with out := Outbound.append (.usage n 0) true { s.out with queue := s.out.queue.erase q } } :=
          ⟨(Outbound.Work.displace q _ true hm hwait hfresh fun _ => by rw [hn]; rfl).works, rfl⟩
        exact hd.trans (.of_stock (depart_stock q .displaced))

theorem placeOneWaiting_works (n : Nat) : s.QueueWorks (s.placeOneWaiting n) := by
  unfold State.placeOneWaiting
  split
  · exact .of_stock rfl
  · rename_i v hv
    exact (placeFinal_works hv).trans (.of_stock (clearDue_stock n : (v.clearDue n).stock = v.stock))

theorem placeWaiting_works : s.QueueWorks s.placeWaiting :=
  foldl_keeps (fun v => s.QueueWorks v) _ _ (fun _ n h => h.trans (placeOneWaiting_works n)) s (.of_stock rfl)

theorem placeNow_works {n : Nat} (h : s.placeNow n = some t) : s.QueueWorks t := by
  obtain ⟨v, hv, rfl | rfl⟩ := placeNow_eq h
  · exact placeFinal_works hv
  · exact (placeFinal_works hv).trans placeWaiting_works

/-- The notice that an epoch notice displaces is queued and waits (R61). -/
theorem epochVictim_waits {l : List QNotice} {q : QNotice} (h : epochVictim l = some q) : q ∈ l ∧ q.sending = false := by
  have hfind : ∀ (p : Notice → Bool), l.find? (fun q => p q.notice && !q.sending) = some q → q ∈ l ∧ q.sending = false := by
    intro p hp
    have hs := List.find?_some hp
    simp only [Bool.and_eq_true, Bool.not_eq_true'] at hs
    exact ⟨List.mem_of_find?_eq_some hp, hs.2⟩
  unfold epochVictim at h
  split at h
  · rename_i r hr
    cases h
    have hs := List.find?_some hr
    simp only [Bool.and_eq_true, Bool.not_eq_true'] at hs
    exact ⟨by simpa using List.mem_of_find?_eq_some hr, hs.2⟩
  · split at h
    · rename_i r hr
      cases h
      exact hfind _ hr
    · split at h
      · rename_i r hr
        cases h
        exact hfind _ hr
      · exact hfind _ h

/-- An epoch notice offered (R59, R61). -/
theorem offerEpoch_works {n : Notice} (hn : n.key = none) : s.QueueWorks (s.offerEpoch n) := by
  have hu : n.isUsage ≠ true := by simp [isUsage_eq, hn]
  unfold State.offerEpoch
  split
  · exact .of_stock rfl
  · split
    · rename_i hroom
      exact ⟨(Outbound.Work.append n false (fresh_of_key_none hn) (absurd · hu) hroom).works, rfl⟩
    · split
      · exact .of_stock rfl
      · rename_i q hq
        obtain ⟨hm, hwait⟩ := epochVictim_waits hq
        have hd : s.QueueWorks { s with out := Outbound.append n false { s.out with queue := s.out.queue.erase q } } :=
          ⟨(Outbound.Work.displace q n false hm hwait (fresh_of_key_none hn) (absurd · hu)).works, rfl⟩
        exact (hd.trans placeWaiting_works).trans (.of_stock (depart_stock q .displaced))

/-- A withdrawal (R61). -/
theorem withdraw_works (p : Notice → Bool) : s.QueueWorks (s.withdraw p) := by
  unfold State.withdraw
  split
  · exact .of_stock rfl
  · rename_i q hq
    have hs := List.find?_some hq
    simp only [Bool.and_eq_true, Bool.not_eq_true'] at hs
    have hw : s.QueueWorks { s with out := { s.out with queue := s.out.queue.erase q } } :=
      ⟨(Outbound.Work.withdraw q (List.mem_of_find?_eq_some hq) hs.2).works, rfl⟩
    exact (hw.trans (.of_stock (depart_stock q .withdrawn))).trans placeWaiting_works

/-! ### The end of a transmission (R50, R51, R57, R60, R65) -/

/-- The notice in transmission leaves the queue, no successor waiting (R57, R58). -/
theorem endTransmission_leaves {a b : List QNotice} {q : QNotice} (e : NoticeEnd) (h : s.out.SendsAt a q b)
    (hx : s.out.successor = none) :
    s.endTransmission e = (State.depart q e { s with out := { queue := a ++ b, successor := none } }).placeWaiting := by
  unfold State.endTransmission
  rw [h.find, hx, h.eraseP]

/-- It leaves SUPERSEDED, and its successor is appended (R60). -/
theorem endTransmission_succeeded {a b : List QNotice} {q : QNotice} {x : Successor} (e : NoticeEnd) (h : s.out.SendsAt a q b)
    (hx : s.out.successor = some x) :
    s.endTransmission e =
      (State.depart q .superseded
        { s with out := Outbound.append x.notice x.final { queue := a ++ b, successor := none } }).placeWaiting := by
  unfold State.endTransmission
  rw [h.find, hx, h.eraseP]

theorem endTransmission_of_none (e : NoticeEnd) (h : ∀ q ∈ s.out.queue, q.sending = false) : s.endTransmission e = s := by
  unfold State.endTransmission
  rw [List.find?_eq_none.2 (by simpa using h)]

/-- An abandoned attempt leaves its notice in its place, no successor waiting (R50, R51, R65). -/
theorem abandonAttempt_stays {a b : List QNotice} {q : QNotice} (h : s.out.SendsAt a q b) (hx : s.out.successor = none) :
    s.abandonAttempt = { s with out := { s.out with queue := a ++ { q with sending := false } :: b } } := by
  unfold State.abandonAttempt
  rw [hx]
  simp only []
  rw [h.stopSending]

/-- An abandoned attempt of a notice with a successor ends its transmission (R60). -/
theorem abandonAttempt_succeeded {x : Successor} (hx : s.out.successor = some x) : s.abandonAttempt = s.endTransmission .superseded := by
  unfold State.abandonAttempt
  rw [hx]

/-- A failed attempt counts: the third, or that of a notice with a successor, ends the transmission (R57, R60). -/
theorem failAttempt_ends {a b : List QNotice} {q : QNotice} (h : s.out.SendsAt a q b)
    (hx : s.out.successor.isSome = true ∨ Config.maxAttempts ≤ q.attempts + 1) : s.failAttempt = s.endTransmission .dropped := by
  unfold State.failAttempt
  rw [h.find]
  exact if_pos (by simpa using hx)

/-- Before the third failed attempt the notice stays queued (R57). -/
theorem failAttempt_stays {a b : List QNotice} {q : QNotice} (h : s.out.SendsAt a q b) (hx : s.out.successor = none)
    (hn : q.attempts + 1 < Config.maxAttempts) :
    s.failAttempt =
      State.placeWaiting
        { s with out := { s.out with queue := a ++ { q with attempts := q.attempts + 1, sending := false } :: b } } := by
  unfold State.failAttempt
  rw [h.find]
  simp only []
  rw [if_neg (by simpa [hx] using hn), h.stopSending]

/-- From `s` to `t` the transmission ended, and the outbound queue worked (R57, R60, R36). -/
structure State.TransmissionEnds (s t : State) : Prop where
  ends : ∃ o, s.out.Ends o ∧ o.Works t.out
  stock : t.stock = { s.stock with out := t.out }

theorem State.TransmissionEnds.then_works (h : s.TransmissionEnds t) (h' : t.QueueWorks u) : s.TransmissionEnds u := by
  obtain ⟨⟨o, he, hw⟩, hs⟩ := h
  exact ⟨⟨o, he, hw.trans h'.works⟩, by rw [h'.stock, hs]⟩

/-- Where no notice is in transmission nothing is to be ended. -/
theorem State.TransmissionEnds.of_none (h : ∀ q ∈ s.out.queue, q.sending = false) : s.TransmissionEnds s :=
  ⟨⟨s.out, .nothing h, .refl _⟩, rfl⟩

theorem endTransmission_ends (e : NoticeEnd) : s.TransmissionEnds (s.endTransmission e) := by
  rcases s.out.sendsAt_or with hnone | ⟨a, q, b, h⟩
  · rw [endTransmission_of_none e hnone]
    exact .of_none hnone
  · cases hx : s.out.successor with
    | none =>
      rw [endTransmission_leaves e h hx]
      have hl : s.TransmissionEnds { s with out := { queue := a ++ b, successor := none } } := ⟨⟨_, .leaves a b q h hx, .refl _⟩, rfl⟩
      exact hl.then_works ((State.QueueWorks.of_stock (depart_stock q e)).trans placeWaiting_works)
    | some x =>
      rw [endTransmission_succeeded e h hx]
      have hl : s.TransmissionEnds { s with out := Outbound.append x.notice x.final { queue := a ++ b, successor := none } } :=
        ⟨⟨_, .succeeded a b q x h hx, .refl _⟩, rfl⟩
      exact hl.then_works ((State.QueueWorks.of_stock (depart_stock q .superseded)).trans placeWaiting_works)

theorem abandonAttempt_ends : s.TransmissionEnds s.abandonAttempt := by
  cases hx : s.out.successor with
  | some x =>
    rw [abandonAttempt_succeeded hx]
    exact endTransmission_ends _
  | none =>
    rcases s.out.sendsAt_or with hnone | ⟨a, q, b, h⟩
    · have : s.abandonAttempt = s := by
        unfold State.abandonAttempt
        rw [hx]
        simp only []
        rw [stopSending_of_none hnone]
      rw [this]
      exact .of_none hnone
    · rw [abandonAttempt_stays h hx]
      exact ⟨⟨_, .stays a b q q.attempts h hx, .refl _⟩, rfl⟩

theorem failAttempt_transmissionEnds : s.TransmissionEnds s.failAttempt := by
  rcases s.out.sendsAt_or with hnone | ⟨a, q, b, h⟩
  · have : s.failAttempt = s := by
      unfold State.failAttempt
      rw [List.find?_eq_none.2 (by simpa using hnone)]
    rw [this]
    exact .of_none hnone
  · by_cases hx : s.out.successor.isSome = true ∨ Config.maxAttempts ≤ q.attempts + 1
    · rw [failAttempt_ends h hx]
      exact endTransmission_ends _
    · rw [not_or, Bool.not_eq_true, Option.isSome_eq_false_iff, Option.isNone_iff_eq_none, Nat.not_le] at hx
      rw [failAttempt_stays h hx.1 hx.2]
      have hl : s.TransmissionEnds
          { s with out := { s.out with queue := a ++ { q with attempts := q.attempts + 1, sending := false } :: b } } :=
        ⟨⟨_, .stays a b q _ h hx.1, .refl _⟩, rfl⟩
      exact hl.then_works placeWaiting_works

theorem actOnSlots_ends (slotA slotR : Bool) : s.TransmissionEnds (s.actOnSlots slotA slotR) := by
  unfold State.actOnSlots
  split
  · exact endTransmission_ends _
  · split
    · exact endTransmission_ends _
    · exact failAttempt_transmissionEnds

/-- A transmission that ended, with the line moved on (R50, R51, R57, R63, R65). -/
theorem State.TransmissionEnds.reaches (h : s.TransmissionEnds t) (hs : s.line.state = .sending)
    (hu : u.stock = { t.stock with line := u.line }) (hnext : u.line.state ≠ .sending) (hproper : u.line.Proper) : s.Reaches u := by
  obtain ⟨⟨o, he, hw⟩, hstock⟩ := h
  refine .move ?_
  rw [hu, hstock]
  exact .transmissionEnds o t.out u.line hs he hw hnext hproper

/-! ### The follow-on steps -/

@[simp] theorem closeTest_stock (e : Epoch) : (s.closeTest e).stock = s.stock := by
  unfold State.closeTest
  split
  · rfl
  · split <;> rfl

theorem abandonAsked_works (b : Bool) : s.QueueWorks (s.abandonAsked b) := by
  unfold State.abandonAsked
  split
  · exact .of_stock rfl
  · simp only []
    split
    · exact (withdraw_works _).after rfl
    · exact .of_stock rfl

theorem dropRequired_stock (st : Station) (e : Epoch) : (s.dropRequired st e).stock = s.stock := by
  unfold State.dropRequired
  split
  · rfl
  · split
    · exact (closeTest_stock e).trans rfl
    · rfl

theorem closeWindow_reaches (why : CloseReason) : s.Reaches (s.closeWindow why) :=
  (State.Reaches.of_dup (t := { s with dup := s.dup.closed }) s.dup.closed Dup.Lawful.closed rfl).trans
    ((offerShare_works 0).reaches.trans (.of_stock rfl))

theorem freeRetired_reaches (n : Nat) : s.Reaches (s.freeRetired n) := by
  unfold State.freeRetired
  split
  · simp only []
    split
    · exact freeUser_reaches (s := { s with freeOwed := _ }) n
    · exact .of_stock rfl
  · exact .refl s

theorem dueAfterLoss_stock (n : Nat) : (s.dueAfterLoss n).stock = s.stock := by
  unfold State.dueAfterLoss
  split
  · simp only []
    split
    · rfl
    · exact setDue_stock (s := { s with dueOwed := _ }) n
  · rfl

theorem takeStretched_reaches : s.Reaches s.takeStretched := by
  unfold State.takeStretched
  split
  · rename_i sender n hrx
    split
    · rename_i hroom
      exact .move (.taken _ (show s.line.rx ≠ _ by simp [hrx]) hroom)
    · exact .refl s
  all_goals exact .refl s

theorem agePeer_stock (st : Station) : (s.agePeer st).stock = s.stock := by
  unfold State.agePeer
  split
  · refine foldl_keeps (fun v : State => v.stock = s.stock) _ _ (fun v e hv => (dropRequired_stock st e).trans hv) _ ?_
    simp
  · rfl

theorem expireAsk_works : s.QueueWorks s.expireAsk := by
  unfold State.expireAsk
  split
  · exact .of_stock rfl
  · split
    · exact abandonAsked_works _
    · exact .of_stock rfl

theorem expireClose_stock (e : Epoch) : (s.expireClose e).stock = s.stock := by
  unfold State.expireClose
  split
  · rfl
  · split <;> rfl

theorem offerRelease_stock (i : Fin 8) : (s.offerRelease i).stock = s.stock := by
  unfold State.offerRelease
  split
  · rfl
  · split
    · simp [State.stock]
    · rfl

theorem expireWindow_reaches : s.Reaches s.expireWindow := by
  unfold State.expireWindow
  split
  · exact closeWindow_reaches _
  · exact .refl s

/-- What earlier events left owed (log 6). -/
theorem settle_reaches : s.Reaches s.settle :=
  settle_keeps (fun v => s.Reaches v) (fun _ n h => h.trans (freeRetired_reaches n)) (fun _ n h => h.trans (.of_stock (dueAfterLoss_stock n)))
    (fun _ h => h.trans takeStretched_reaches) (fun _ st h => h.trans (.of_stock (agePeer_stock st)))
    (fun _ h => h.trans expireAsk_works.reaches) (fun _ e h => h.trans (.of_stock (expireClose_stock e)))
    (fun _ i h => h.trans (.of_stock (offerRelease_stock i))) (fun _ h => h.trans expireWindow_reaches) s (.refl s)

end Sys2Proof.Machine
end

section
/-! PROOFS. What the accesses, requests and events of every block do to the stock. -/

namespace Sys2Proof.Machine

variable {s t u : State}

theorem State.Reaches.after (h : t.Reaches u) (hs : t.stock = s.stock) : s.Reaches u := (State.Reaches.of_stock hs).trans h

/-! ### The requests of chapter 2 -/

/-- An access after the checks of R25: only the work on a record that was found can change anything. -/
theorem withUser_reaches (n : Nat) (refused : UserBlock → ReplyBody) {act : UserRec → State → Answer}
    (hAct : ∀ v, s.Reaches (act v s).1) : s.Reaches (s.withUser n refused act).1 := by
  unfold State.withUser
  split
  · exact .refl s
  · split
    · exact .refl s
    · exact hAct _

theorem chargeAccess_reaches (n k : Nat) : s.Reaches (chargeAccess n k s).1 := by
  unfold chargeAccess
  split
  · exact .refl s
  · refine withUser_reaches _ _ fun v => ?_
    simp only []
    split
    · exact .of_stock (commit_stock _ _)
    · exact .refl s

theorem creditAccess_reaches (n k : Nat) : s.Reaches (creditAccess n k s).1 := by
  unfold creditAccess
  iterate 2 (split; · exact .refl s)
  exact withUser_reaches _ _ fun _ => .of_stock (commit_stock _ _)

theorem insertUser_length (v : UserRec) (l : List UserRec) : (insertUser v l).length = l.length + 1 := by
  induction l with
  | nil => rfl
  | cons r rs ih => by_cases h : v.user < r.user <;> simp [insertUser, h, ih]

/-- A record is created while fewer than the configured number are in use (R29). -/
theorem userLoadAccess_reaches (n soft hard live : Nat) : s.Reaches (userLoadAccess n soft hard live s).1 := by
  unfold userLoadAccess
  iterate 2 (split; · exact .refl s)
  split
  · split <;> exact .refl s
  · split
    · exact .refl s
    · rename_i hfull
      refine .of_users (fun _ => ?_) rfl
      change (insertUser _ s.users).length ≤ _
      rw [insertUser_length]
      exact Nat.lt_of_not_le hfull

theorem userLimitsAccess_reaches (n soft hard : Nat) : s.Reaches (userLimitsAccess n soft hard s).1 := by
  unfold userLimitsAccess
  iterate 2 (split; · exact .refl s)
  exact withUser_reaches _ _ fun _ => .of_stock (commit_stock _ _)

theorem userFreezeAccess_reaches (n : Nat) : s.Reaches (userFreezeAccess n s).1 :=
  withUser_reaches _ _ fun v => .of_stock (putState_stock v .frozen)

theorem userThawAccess_reaches (n : Nat) : s.Reaches (userThawAccess n s).1 := by
  refine withUser_reaches _ _ fun v => ?_
  simp only []
  split
  · exact .of_stock (putState_stock v _)
  · exact .refl s

theorem beginRetiring_reaches (v : UserRec) : s.Reaches (s.beginRetiring v) := by
  unfold State.beginRetiring
  simp only []
  split
  · rename_i placed hp
    exact (placeNow_works hp).reaches.after (putState_stock _ _)
  · exact .of_stock (by simp [State.stock, State.setDue, State.putState])

theorem retireNow_reaches (owed : Bool) (n : Nat) : s.Reaches (s.retireNow owed n) := by
  unfold State.retireNow
  split
  · cases hp : s.placeNow n with
    | none => exact freeUser_reaches n
    | some placed => exact (placeNow_works hp).reaches.trans (freeUser_reaches n)
  · exact freeUser_reaches n

theorem userRetireAccess_reaches (n : Nat) : s.Reaches (userRetireAccess n s).1 := by
  refine withUser_reaches _ _ fun v => ?_
  simp only []
  split
  · exact .refl s
  · split
    · exact beginRetiring_reaches v
    · exact retireNow_reaches _ _

theorem userResyncAccess_reaches (n : Nat) : s.Reaches (userResyncAccess n s).1 :=
  withUser_reaches _ _ fun _ => .of_stock ((setDue_stock n).trans (commit_stock _ _))

/-- A user is watched while fewer than 4 are (R40). -/
theorem userWatchAccess_reaches (n : Nat) : s.Reaches (userWatchAccess n s).1 := by
  refine withUser_reaches _ _ fun v => ?_
  split
  · exact .refl s
  · split
    · rename_i hroom
      refine .of_watch (fun _ => ?_) rfl
      change (s.watch ++ [n]).length ≤ _
      rw [List.length_append]
      exact hroom
    · exact .refl s

theorem userUnwatchAccess_reaches (n : Nat) : s.Reaches (userUnwatchAccess n s).1 :=
  withUser_reaches _ _ fun _ => .of_watch ((List.length_filter_le _ _).trans ·) rfl

/-! ### Holds -/

/-- A new hold record is taken from the free list (R117, R119). -/
theorem addHold_length {n : Nat} {e : Epoch} {k bound : Nat} {l : List Hold} (h : l.length ≤ bound)
    (hf : ¬ (l.any (isHold n e) = false ∧ bound - l.length = 0)) : (addHold n e k l).length ≤ bound := by
  unfold addHold
  split
  · simpa using h
  · rename_i hnew
    have : bound - l.length ≠ 0 := fun h0 => hf ⟨by simpa using hnew, h0⟩
    simp only [List.length_append, List.length_singleton]
    omega

theorem holdAccess_reaches (n : Nat) (e : Epoch) (k : Nat) : s.Reaches (holdAccess n e k s).1 := by
  unfold holdAccess
  iterate 2 (split; · exact .refl s)
  unfold State.withUser
  split
  · exact .refl s
  · split
    · exact .refl s
    · rename_i v hv
      simp only []
      split
      · exact .refl s
      · iterate 4 (split; · exact .refl s)
        split
        · exact .refl s
        · rename_i hpool
          have huser : v.user = n := findActive_user hv
          have hadd : s.Reaches { s with holds := addHold n e k s.holds } :=
            .of_holds (fun h => addHold_length h hpool) rfl
          refine hadd.trans (.of_stock ?_)
          subst huser
          exact (commit_stock (s := State.modifyEpoch e _ { s with holds := addHold v.user e k s.holds }) _ _).trans rfl

theorem continueExpiry_stock (e : Epoch) (k : Nat) : (s.continueExpiry e k).stock = s.stock := by
  unfold State.continueExpiry
  split <;> rfl

theorem snapExpire_reaches (e : Epoch) (discard : Bool) : s.Reaches (snapExpire e discard s).1 := by
  have hpurge : s.Reaches (s.purge e) :=
    .of_dup { s.dup with queue := s.dup.queue.filter fun q => !q.names e } (fun h => h.sublist List.filter_sublist) rfl
  unfold snapExpire
  split
  · exact .refl s
  · split
    · unfold State.beginExpiry
      split
      · exact hpurge.trans (.of_stock (continueExpiry_stock (s := (s.purge e).modifyEpoch e _) e 0))
      · exact .of_stock (continueExpiry_stock (s := s.modifyEpoch e _) e 0)
    · exact .refl s

theorem releaseHold_reaches (x : Hold) : s.Reaches (s.releaseHold x) := by
  have hfree : s.Reaches { s with holds := s.holds.eraseP fun g => isHold x.user x.epoch g } :=
    .of_holds (List.length_eraseP_le.trans ·) rfl
  refine hfree.trans (.of_stock ?_)
  unfold State.releaseHold
  simp only []
  split
  · rfl
  · exact commit_stock (s := State.modifyEpoch x.epoch _ { s with holds := _ }) _ _

theorem serveExpiryStep_reaches : s.Reaches s.serveExpiryStep := by
  have hset := settle_reaches (s := s)
  unfold State.serveExpiryStep
  generalize s.settle = v at hset
  simp only []
  split
  · split
    · unfold State.expiryStep
      split
      · exact hset.trans (.of_stock rfl)
      · exact (hset.trans (releaseHold_reaches _)).trans (.of_stock (continueExpiry_stock _ _))
    · exact .refl s
  all_goals exact .refl s

/-! ### Restores -/

theorem restoreBeginAccess_reaches (n : Nat) (e : Epoch) (k : Nat) : s.Reaches (restoreBeginAccess n e k s).1 := by
  unfold restoreBeginAccess
  iterate 2 (split; · exact .refl s)
  refine withUser_reaches _ _ fun v => ?_
  simp only []
  split
  · exact .refl s
  · iterate 2 (split; · exact .refl s)
    split
    · exact .refl s
    · rename_i i hi
      split
      · exact .of_stock (by simp [State.beginJob])
      · exact .refl s

@[simp] theorem changeJobUser_stock (n : Nat) (f : UserRec → UserRec) : (s.changeJobUser n f).stock = s.stock := by
  unfold State.changeJobUser
  split
  · rfl
  · exact commit_stock _ _

theorem restoreProgressAccess_reaches (handle k : Nat) : s.Reaches (restoreProgressAccess handle k s).1 := by
  unfold restoreProgressAccess
  iterate 3 (split; · exact .refl s)
  split
  · exact .refl s
  · exact .of_stock ((changeJobUser_stock _ _).trans (setJob_stock _ _))

theorem endJob_stock (i : Fin 8) (j : Job) : (s.endJob i j).stock = s.stock := by simp [State.endJob]

theorem restoreEndAccess_reaches (handle : Nat) : s.Reaches (restoreEndAccess handle s).1 := by
  unfold restoreEndAccess
  split
  · exact .refl s
  · split
    · exact .refl s
    · exact .of_stock (endJob_stock _ _)

theorem idleRelease_stock (i gen : Fin 8) : (s.idleRelease i gen).stock = s.stock := by
  unfold State.idleRelease
  split
  · rfl
  · split
    · exact endJob_stock _ _
    · exact setJob_stock i _

theorem serveIdleRelease_reaches : s.Reaches s.serveIdleRelease := by
  have hset := settle_reaches (s := s)
  unfold State.serveIdleRelease
  generalize s.settle = v at hset
  simp only []
  split
  · rename_i i gen rest hc
    exact hset.trans (.of_stock (idleRelease_stock (s := { v with class1 := rest }) i gen))
  all_goals exact .refl s

theorem restartRelease_stock (i gen : Fin 8) : (s.restartRelease i gen).stock = s.stock := by
  unfold State.restartRelease
  split
  · rfl
  · exact endJob_stock _ _

theorem finishRestart_stock : s.finishRestart.stock = s.stock := by
  unfold State.finishRestart
  split
  · rfl
  · split
    · rfl
    · split <;> rfl

theorem serveRestartRelease_reaches : s.Reaches s.serveRestartRelease := by
  have hset := settle_reaches (s := s)
  unfold State.serveRestartRelease
  generalize s.settle = v at hset
  simp only []
  split
  · rename_i i gen rest hc
    refine hset.trans (.of_stock (finishRestart_stock.trans ((withLink_stock ?_).trans ?_)))
    · simp
    · exact restartRelease_stock (s := { v with class1 := rest }) i gen
  all_goals exact .refl s

/-! ### Snapshots -/

theorem snapTake_reaches : s.Reaches (snapTake s).1 := by
  unfold snapTake
  iterate 3 (split; · exact .refl s)
  have hpropose : s.QueueWorks (s.propose (nextEpoch s.latest)) := (offerEpoch_works rfl).after rfl
  exact hpropose.reaches

theorem snapReady_reaches (e : Epoch) : s.Reaches (snapReady e s).1 := by
  unfold snapReady
  split
  · exact .refl s
  · split
    · have hready : s.QueueWorks (State.offerEpoch (.epochReady e) (s.modifyEpoch e (readied s.presentSet s.station s.settings.closeLimit))) :=
        (offerEpoch_works rfl).after rfl
      exact hready.reaches.trans (.of_stock (closeTest_stock e))
    · exact .refl s

theorem newProposal_reaches (st : Station) (e : Epoch) (early : StationSet) : s.Reaches (s.newProposal st e early) := by
  unfold State.newProposal
  split
  · refine (abandonAsked_works true).reaches.trans (.of_stock ?_)
    unfold State.enterProposal
    split <;> rfl
  · exact .of_stock rfl

theorem receiveProposal_reaches (st : Station) (e : Epoch) : s.Reaches (receiveProposal st e s) := by
  unfold receiveProposal
  split
  · exact newProposal_reaches _ _ _
  · split
    · exact .refl s
    · split
      · exact (withdraw_works _).reaches
      · unfold State.answerStale
        split
        · exact .refl s
        · exact ((withdraw_works _).trans (offerEpoch_works (n := .epochLatest _) rfl)).reaches

theorem receiveReady_reaches (st : Station) (e : Epoch) : s.Reaches (receiveReady st e s) := by
  unfold receiveReady
  split
  · exact .of_stock ((closeTest_stock e).trans rfl)
  · split
    · exact newProposal_reaches _ _ _
    · exact .refl s

theorem hearLatest_reaches (l : Epoch) : s.Reaches (s.hearLatest l) := by
  unfold State.hearLatest
  split
  · split
    · exact (abandonAsked_works true).reaches.trans (.of_stock rfl)
    · exact .of_stock rfl
  · exact .refl s

/-! ### The Peer View and the sweeps -/

theorem removeStation_stock (st : Station) (v : UserRec) : (s.removeStation st v).stock = s.stock := by
  unfold State.removeStation
  split
  · exact commit_stock _ _
  · rfl

theorem completeDrop_stock (st : Station) (k : Nat) : (s.completeDrop st k).stock = s.stock := by
  simp [State.stock, State.completeDrop]

theorem continueDrop_stock (st : Station) (p : Option Nat) (k : Nat) : (s.continueDrop st p k).stock = s.stock := by
  unfold State.continueDrop
  split
  · exact completeDrop_stock st k
  · rfl

theorem dropStep_stock (st : Station) (p : Option Nat) (k : Nat) : (s.dropStep st p k).stock = s.stock := by
  unfold State.dropStep
  split
  · exact completeDrop_stock st k
  · exact (continueDrop_stock _ _ _).trans (removeStation_stock st _)

theorem serveDropStep_reaches : s.Reaches s.serveDropStep := by
  have hset := settle_reaches (s := s)
  unfold State.serveDropStep
  generalize s.settle = v at hset
  simp only []
  split
  · split
    · exact hset.trans (.of_stock (dropStep_stock _ _ _))
    · exact .refl s
  all_goals exact .refl s

theorem peerDrop_reaches (n : Nat) : s.Reaches (peerDrop n s).1 := by
  unfold peerDrop
  split
  · simp only []
    iterate 3 (split; · exact .refl s)
    exact .of_stock (continueDrop_stock _ _ _)
  · exact .refl s

theorem cutDrop_stock (st : Station) (served : Bool) : (s.cutDrop st served).stock = s.stock := by
  unfold State.cutDrop
  split
  · rfl
  · rfl
  · split
    · split
      · rfl
      · exact removeStation_stock st _
    · rfl

theorem hear_stock (st : Station) (served : Bool) : (s.hear st served).stock = s.stock := by
  unfold State.hear
  split
  · rfl
  · simp only []
    split
    · exact setPeer_stock st _
    · simp [State.stock, State.beginRound]
    · refine Eq.trans (cutDrop_stock st served) ?_
      simp

theorem receiveUsage_reaches (st : Station) (n x : Nat) : s.Reaches (receiveUsage st n x s) := by
  unfold receiveUsage
  split
  · exact .refl s
  · exact .of_stock (commit_stock _ _)

theorem receivePresence_reaches (st : Station) (l : Option Epoch) : s.Reaches (receivePresence st l s) := by
  unfold receivePresence
  cases l with
  | none => exact .of_stock (setPeer_stock st _)
  | some l => exact (hearLatest_reaches l).after (setPeer_stock st _)

/-- A visit that reports offers a USAGE (R82). -/
theorem visitDigest_reaches (v : UserRec) : s.Reaches (s.visitDigest v) := by
  unfold State.visitDigest
  simp only []
  split
  · exact (offerUsage_works v.user (ownCharge s.settings.heldWeight v)).reaches.trans (.of_stock (by simp [State.stock]))
  · exact .of_stock rfl

theorem serveDigestVisit_reaches : s.Reaches s.serveDigestVisit := by
  have hset := settle_reaches (s := s)
  unfold State.serveDigestVisit
  generalize s.settle = v at hset
  simp only []
  split
  · split
    · exact .refl s
    · exact hset.trans (visitDigest_reaches _)
  · exact .refl s

theorem digestResume_reaches : s.Reaches (digestResume s).1 := by
  unfold digestResume
  simp only []
  split <;> exact .of_stock rfl

theorem reachGap_reaches : s.Reaches s.reachGap := by
  unfold State.reachGap
  split <;> exact .of_stock rfl

theorem endScan_stock : s.endScan.stock = s.stock := by
  unfold State.endScan
  split
  · rfl
  · split <;> rfl

theorem continueScan_stock : s.continueScan.stock = s.stock := by
  unfold State.continueScan
  split
  · exact endScan_stock
  · rfl

theorem visitGrace_stock (v : UserRec) : (s.visitGrace v).stock = s.stock := by
  unfold State.visitGrace
  split
  · exact putState_stock v _
  · simp [State.stock]
  all_goals rfl

theorem scanVisit_stock : s.scanVisit.stock = s.stock := by
  unfold State.scanVisit
  split
  · exact endScan_stock
  · exact continueScan_stock.trans (visitGrace_stock _)

theorem serveScanVisit_reaches : s.Reaches s.serveScanVisit := by
  have hset := settle_reaches (s := s)
  unfold State.serveScanVisit
  generalize s.settle = v at hset
  simp only []
  split
  · exact hset.trans (.of_stock scanVisit_stock)
  · exact .refl s

theorem peerQuery_reaches (n : Nat) : s.Reaches (peerQuery n s).1 := by
  unfold peerQuery
  split
  · simp only []
    split <;> exact .refl s
  · exact .refl s

end Sys2Proof.Machine
end

section
/-! PROOFS. What the Duplication Unit's requests do to the stock (R151 to R170). -/

namespace Sys2Proof.Machine

variable {s t : State}

/-! ### Queueing and the window -/

/-- A free entry of the region (R148). -/
theorem append_reaches {w : DupWork} (hw : w.small = true) (hf : s.freeDups ≠ 0) (ht : t.stock = { s.stock with dup := s.dup.append w }) :
    s.Reaches t :=
  .of_dup _ (fun h => h.append hw hf) ht

theorem dupExtent_reaches (e : Epoch) (token : Token) (units : Nat) : s.Reaches (dupExtent e token units s).1 := by
  unfold dupExtent
  split
  · exact .refl s
  · split
    · exact .refl s
    · rename_i hunits
      have hsmall : units ≤ Config.maxExtent := Nat.le_of_not_lt hunits
      split
      · exact .refl s
      · split
        · exact .refl s
        · split
          · exact .of_dup _ (fun h => h.absorb (isExtent e token) hsmall) rfl
          · split
            · exact .refl s
            · rename_i hfree
              exact append_reaches (w := .extent e token units) (decide_eq_true hsmall) hfree rfl

theorem dupEnd_reaches (e : Epoch) : s.Reaches (dupEnd e s).1 := by
  unfold dupEnd
  split
  · exact .refl s
  · split
    · exact .refl s
    · split
      · exact .refl s
      · rename_i hfree
        exact append_reaches (w := .endMark e) rfl hfree rfl

theorem dupHalt_reaches : s.Reaches (dupHalt s).1 := by
  unfold dupHalt
  split
  · exact .refl s
  · rename_i hfree
    exact append_reaches (w := .halt) rfl hfree rfl

theorem windowOpen_reaches : s.Reaches (windowOpen s).1 := by
  unfold windowOpen
  split
  · exact .refl s
  · have hopened : ∀ share, s.Reaches { s with dup := Dup.withShare share (s.dup.opened s.settings.windowLimit) } :=
      fun share => .of_dup _ (fun h => h.opened s.settings.windowLimit share) rfl
    exact (hopened _).trans (offerShare_works _).reaches

theorem windowClose_reaches : s.Reaches (windowClose s).1 := by
  unfold windowClose
  split
  · exact closeWindow_reaches _
  · exact .refl s

/-! ### GRANT-TAKE -/

theorem grantHead_reaches {i : Fin 8} {q : DupEntry} {rest : List DupEntry} (hq : s.dup.queue = q :: rest)
    (hi : (s.grantSlot i).grant = none) : s.Reaches (grantHead i q rest s).1 := by
  have hgrant : ∀ charged : Dup, charged.grants = s.dup.grants →
      (s.dup.Lawful s.settings.dupEntries → charged.debt < Config.maxExtent) → s.Reaches (s.grant i q rest charged) := by
    intro charged hc hd
    exact .of_dup _ (fun h => h.grant hq hi hc (hd h) (g := { work := q.work, retries := q.retries, order := s.dup.nextOrder }) rfl)
      (modifyWorkEpoch_stock q.work _)
  unfold grantHead
  split
  · exact .refl s
  · split
    · exact .refl s
    · exact hgrant s.dup rfl fun h => h.debt
  · rename_i e token units hw
    split
    · exact .refl s
    · rename_i charged hc
      have hcharge : s.dup.Lawful s.settings.dupEntries → charged.debt < Config.maxExtent := by
        intro h
        have hsmall := h.queued q (by simp [hq])
        rw [hw] at hsmall
        exact (charge_debt hc (of_decide_eq_true hsmall) h.debt).2.2
      refine hgrant charged ?_ hcharge
      unfold Dup.charge at hc
      split at hc
      · cases hc
        rfl
      · split at hc
        · cases hc
          rfl
        · cases hc

theorem grantTake_reaches : s.Reaches (grantTake s).1 := by
  unfold grantTake
  split
  · exact .refl s
  · split
    · exact .refl s
    · rename_i i hi
      have hfree : (s.grantSlot i).grant = none := by simpa using List.find?_some hi
      split
      · exact .refl s
      · split
        · exact .refl s
        · rename_i q rest hq
          split
          · have hrest : s.Reaches { s with dup := { s.dup with queue := rest } } :=
              .of_dup _ (fun h => h.sublist (by simp [hq])) rfl
            exact hrest.trans (closeWindow_reaches _)
          · exact grantHead_reaches hq hfree

/-! ### GRANT-DONE and RESTART -/

theorem freeGrantSlot_stock (i : Fin 8) (g : Grant) : (s.freeGrantSlot i g).stock = { s.stock with dup := s.dup.freed i } :=
  modifyWorkEpoch_stock _ _

theorem freeGrantSlot_reaches {i : Fin 8} {g : Grant} (hg : (s.grantSlot i).grant = some g) : s.Reaches (s.freeGrantSlot i g) :=
  .of_dup _ (fun h => h.freed hg) (freeGrantSlot_stock i g)

/-- What is done to the Duplication Unit by an entry that returns: it is absorbed, or stands at the head (R168). -/
theorem returnEntry_cases (w : DupWork) (retries : Nat) (s : State) :
    (∃ e token units, w = .extent e token units ∧
      (s.returnEntry w retries).stock =
        { s.stock with dup := { s.dup with queue := modifyFirst (isExtent e token) (absorb units) s.dup.queue } }) ∨
    (s.returnEntry w retries).stock =
      { s.stock with
        dup := { s.dup with queue := { work := w, parity := s.dup.returnParity, retries := retries } :: s.dup.queue } } := by
  unfold State.returnEntry
  cases w with
  | extent e token units =>
    simp only []
    split
    · exact .inl ⟨e, token, units, rfl, rfl⟩
    · exact .inr (modifyWorkEpoch_stock _ _)
  | endMark e => exact .inr (modifyWorkEpoch_stock _ _)
  | halt => exact .inr (modifyWorkEpoch_stock _ _)

/-- A grant that leaves its slot and returns to the queue (R167, R168, R170). -/
theorem returned_reaches {i : Fin 8} {g : Grant} (retries : Nat) (hg : (s.grantSlot i).grant = some g) :
    s.Reaches ((s.freeGrantSlot i g).returnEntry g.work retries) := by
  have hfreed := freeGrantSlot_stock (s := s) i g
  have hd : (s.freeGrantSlot i g).dup = s.dup.freed i := congrArg Stock.dup hfreed
  rcases returnEntry_cases g.work retries (s.freeGrantSlot i g) with ⟨e, token, units, hw, ht⟩ | ht
  · rw [hfreed, hd] at ht
    refine .of_dup _ (fun h => ?_) ht
    have hsmall := h.grant_small hg
    rw [hw] at hsmall
    exact (h.freed hg).absorb _ (of_decide_eq_true hsmall)
  · rw [hfreed, hd] at ht
    exact .of_dup _ (fun h => h.requeued hg _ retries) ht

theorem grantSucceeds_reaches {i : Fin 8} {g : Grant} (hg : (s.grantSlot i).grant = some g) : s.Reaches (s.grantSucceeds i g) := by
  refine (freeGrantSlot_reaches hg).trans (.of_stock ?_)
  unfold State.grantSucceeds
  simp only []
  split <;> rfl

theorem grantDropped_reaches {i : Fin 8} {g : Grant} (hg : (s.grantSlot i).grant = some g) : s.Reaches (s.grantDropped i g) := by
  refine (freeGrantSlot_reaches hg).trans (.of_stock ?_)
  unfold State.grantDropped
  simp only []
  split <;> simp

theorem grantDone_reaches (handle : Nat) (failed : Bool) : s.Reaches (grantDone handle failed s).1 := by
  unfold grantDone
  split
  · exact .refl s
  · split
    · exact .refl s
    · rename_i g hg
      have hslot : (s.grantSlot (handleSlot handle)).grant = some g := by
        unfold State.grantOf at hg
        split at hg
        · exact hg
        · cases hg
      split
      · split
        · exact returned_reaches _ hslot
        · exact grantDropped_reaches hslot
      · exact grantSucceeds_reaches hslot

theorem insertGrant_perm (p : Fin 8 × Grant) (l : List (Fin 8 × Grant)) : (insertGrant p l).Perm (p :: l) := by
  induction l with
  | nil => exact .refl _
  | cons x xs ih =>
    by_cases h : x.2.order < p.2.order
    · simp [insertGrant, h]
    · rw [insertGrant, if_neg h]
      exact (ih.cons x).trans (.swap p x xs)

/-- The grants in flight with their slots: each slot once, with the grant it holds (R170). -/
theorem grantsLatestFirst_slots (s : State) :
    (s.grantsLatestFirst.map Prod.fst).Nodup ∧ ∀ p ∈ s.grantsLatestFirst, (s.grantSlot p.1).grant = some p.2 := by
  have key : ∀ l : List (Fin 8), l.Nodup →
      let r := l.foldr (fun i r => match (s.grantSlot i).grant with
        | none => r
        | some g => insertGrant (i, g) r) []
      (r.map Prod.fst).Nodup ∧ (∀ p ∈ r, p.1 ∈ l) ∧ ∀ p ∈ r, (s.grantSlot p.1).grant = some p.2 := by
    intro l hl
    induction l with
    | nil => simp
    | cons i rest ih =>
      obtain ⟨hi, hrest⟩ := List.nodup_cons.1 hl
      obtain ⟨hn, hm, hg⟩ := ih hrest
      simp only [List.foldr_cons]
      split
      · exact ⟨hn, fun p hp => List.mem_cons_of_mem _ (hm p hp), hg⟩
      · rename_i g hslot
        have hperm := insertGrant_perm (i, g)
          (rest.foldr (fun i r => match (s.grantSlot i).grant with
            | none => r
            | some g => insertGrant (i, g) r) [])
        refine ⟨?_, fun p hp => ?_, fun p hp => ?_⟩
        · rw [(hperm.map Prod.fst).nodup_iff, List.map_cons, List.nodup_cons]
          refine ⟨fun hmem => ?_, hn⟩
          obtain ⟨p, hp, hpi⟩ := List.mem_map.1 hmem
          exact hi ((show p.1 = i from hpi) ▸ hm p hp)
        · rcases List.mem_cons.1 (hperm.mem_iff.1 hp) with rfl | hp
          · exact List.mem_cons_self
          · exact List.mem_cons_of_mem _ (hm p hp)
        · rcases List.mem_cons.1 (hperm.mem_iff.1 hp) with rfl | hp
          · exact hslot
          · exact hg p hp
  have h := key (List.finRange 8) (List.nodup_finRange 8)
  exact ⟨h.1, h.2.2⟩

/-- The return of one grant leaves every other slot (R168, R170). -/
theorem returnGrant_slot (p : Fin 8 × Grant) {k : Fin 8} (hk : k ≠ p.1) : (s.returnGrant p).grantSlot k = s.grantSlot k := by
  have hgrants : (s.returnGrant p).dup.grants = (s.dup.freed p.1).grants := by
    have hd : (s.freeGrantSlot p.1 p.2).dup = s.dup.freed p.1 := congrArg Stock.dup (freeGrantSlot_stock p.1 p.2)
    rw [← hd]
    rcases returnEntry_cases p.2.work p.2.retries (s.freeGrantSlot p.1 p.2) with ⟨e, token, units, -, ht⟩ | ht
    · exact congrArg (fun a => a.dup.grants) ht
    · exact congrArg (fun a => a.dup.grants) ht
  have hval : p.1.val ≠ k.val := Fin.val_ne_of_ne hk.symm
  unfold State.grantSlot
  rw [hgrants]
  simp [Dup.freed, hval]

/-- RESTART returns every grant (R170). -/
theorem returnGrants_reaches : s.Reaches s.returnGrants := by
  have key : ∀ (l : List (Fin 8 × Grant)) (v : State), (l.map Prod.fst).Nodup → (∀ p ∈ l, (v.grantSlot p.1).grant = some p.2) →
      v.Reaches (l.foldl State.returnGrant v) := by
    intro l
    induction l with
    | nil => exact fun v _ _ => .refl v
    | cons p rest ih =>
      intro v hn hg
      rw [List.map_cons, List.nodup_cons] at hn
      have hstep : v.Reaches (v.returnGrant p) := returned_reaches _ (hg p List.mem_cons_self)
      refine hstep.trans (ih _ hn.2 fun r hr => ?_)
      have hne : r.1 ≠ p.1 := fun he => hn.1 (he ▸ List.mem_map_of_mem hr)
      rw [returnGrant_slot p hne]
      exact hg r (List.mem_cons_of_mem _ hr)
  obtain ⟨hn, hg⟩ := grantsLatestFirst_slots s
  exact key _ s hn hg

end Sys2Proof.Machine
end

section
/-! PROOFS. What the events of the Peer Line do to the stock (R49 to R66), with the conditions under which they happen. -/

namespace Sys2Proof.Machine

variable {s t : State}

/-! ### Conditions of the line -/

theorem stretchesCL_iff : s.stretchesCL = true ↔ ∃ st n, s.line.rx = .stretching st n := by
  unfold State.stretchesCL
  cases s.line.rx <;> simp

theorem stretchesCL_eq_false : s.stretchesCL = false ↔ ∀ st n, s.line.rx ≠ .stretching st n := by
  rw [Bool.eq_false_iff, ne_eq, stretchesCL_iff]
  simp

/-- A BUSY line that this station does not hold (R63). -/
theorem busyFree_iff : s.busyFree = true ↔ (∃ why, s.line.state = .busy why) ∧ ∀ st n, s.line.rx ≠ .stretching st n := by
  rw [← stretchesCL_eq_false]
  unfold State.busyFree
  cases s.line.state <;> simp

/-- The reception of a frame, the own stretch apart (R54). -/
theorem inFrame_iff : s.inFrame = true ↔ (∃ seen, s.line.rx = .receiving seen) ∨ ∃ slot, s.line.rx = .judged slot := by
  unfold State.inFrame
  cases s.line.rx <;> simp

theorem takenNotice_eq_none : s.takenNotice = none ↔ ∀ r ∈ s.recv, r.available = true := by
  unfold State.takenNotice
  simp

/-- The line waits for the idle gap, after a stop or for one (R46). -/
theorem awaitsGap_iff :
    s.awaitsGap = true ↔
      s.line.state = .busy .gap ∨ s.line.state = .busy .stray ∨
      s.line.state = .busy .frame ∧ (s.line.rx = .noFrame ∨ (∃ slot, s.line.rx = .judged slot) ∧ ∀ r ∈ s.recv, r.available = true) := by
  rw [← takenNotice_eq_none]
  unfold State.awaitsGap
  cases s.line.state with
  | busy why =>
    cases why with
    | frame => cases s.line.rx <;> simp
    | _ => simp
  | _ => simp

/-- A line on which the station measures, in BUSY, IDLE or SENDING (R65). -/
theorem measures_iff {x : LineState} : x.measures = true ↔ x ≠ .detached ∧ x ≠ .stuck := by
  cases x <;> simp [LineState.measures]

/-! ### The line moves on -/

/-- Received notices stand, all available, and the line leaves a state in which it measures and does not send. -/
theorem cleared_reaches {l : Line} {r : List RxNotice}
    (free : s.line.state = .sending ∨ s.line.state = .detached → s.line.rx ≠ .noFrame ∨ ∃ x ∈ s.recv, x.available = false)
    (next : l.state ≠ .sending) (proper : l.Proper) (length : r.length ≤ s.recv.length) (available : ∀ x ∈ r, x.available = true)
    (ht : t.stock = { s.stock with recv := r, line := l }) : s.Reaches t :=
  .move (ht ▸ .cleared l r free next proper length available)

/-- The frame in progress is given up, and the line moves on (R54, R65). -/
theorem dropFrame_reaches {l : Line}
    (free : s.line.state = .sending ∨ s.line.state = .detached → s.line.rx ≠ .noFrame ∨ ∃ x ∈ s.recv, x.available = false)
    (next : l.state ≠ .sending) (proper : l.Proper)
    (ht : t.stock = { s.stock with recv := s.recv.filter fun r => r.available, line := l }) : s.Reaches t :=
  cleared_reaches free next proper (List.length_filter_le _ _) (fun _ hx => (List.mem_filter.1 hx).2) ht

/-- The line leaves a state in which no frame is received. -/
theorem changed_reaches {l : Line} (sending : s.line.state ≠ .sending) (detached : s.line.state ≠ .detached)
    (quiet : s.line.state = .busy .frame → s.line.rx = .noFrame) (next : l.state ≠ .sending) (proper : l.Proper)
    (ht : t.stock = { s.stock with line := l }) : s.Reaches t :=
  .move (ht ▸ .changed l sending detached quiet next proper)

/-- A line that neither sends nor is DETACHED. -/
theorem free_of_state {p : Prop} (hs : s.line.state ≠ .sending) (hd : s.line.state ≠ .detached) :
    s.line.state = .sending ∨ s.line.state = .detached → p := fun h => absurd h (not_or.2 ⟨hs, hd⟩)

/-! ### Sending -/

/-- Own start (R49). -/
theorem startSending_starts {q : QNotice} {rest : List QNotice} (hl : s.settle.line.state = .idle) (hq : s.settle.out.queue = q :: rest) :
    s.startSending = { s.settle with
      out := { s.settle.out with queue := { q with sending := true } :: rest }
      line := { state := .sending, rx := .noFrame, sendBits := frameBits s.settle.station q.notice } } := by
  unfold State.startSending
  simp only [hl, hq, markSending]

/-- No start on another line or with an empty queue (R49, log 3). -/
theorem startSending_not (h : s.settle.line.state ≠ .idle ∨ s.settle.out.queue = []) : s.startSending = s := by
  unfold State.startSending
  generalize s.settle = v at h
  simp only []
  split
  · rename_i hl hq
    rcases h with h | h
    · exact absurd hl h
    · cases hq.symm.trans h
  all_goals rfl

theorem startSending_reaches : s.Reaches s.startSending := by
  have hset := settle_reaches (s := s)
  by_cases hl : s.settle.line.state = .idle
  · cases hq : s.settle.out.queue with
    | nil =>
      rw [startSending_not (.inr hq)]
      exact .refl s
    | cons q rest =>
      rw [startSending_starts hl hq]
      generalize s.settle = v at *
      exact hset.trans (.move (.sends q rest _ hl hq))
  · rw [startSending_not (.inl hl)]
    exact .refl s

theorem loseArbitration_reaches (bit : Nat) : s.Reaches (s.loseArbitration bit) := by
  have hset := settle_reaches (s := s)
  unfold State.loseArbitration
  generalize s.settle = v at hset
  simp only []
  split
  · rename_i h
    exact hset.trans (abandonAttempt_ends.reaches h.1 rfl nofun (absurd rfl))
  · exact .refl s

theorem meetClash_reaches (bit : Nat) : s.Reaches (s.meetClash bit) := by
  have hset := settle_reaches (s := s)
  unfold State.meetClash
  generalize s.settle = v at hset
  simp only []
  split
  · rename_i h
    split
    · exact .refl s
    · exact hset.trans ((endTransmission_ends .clash).reaches h.1 rfl nofun fun _ => rfl)
  · exact .refl s

theorem meetChange_reaches (byStart : Bool) : s.Reaches (s.meetChange byStart) := by
  have hset := settle_reaches (s := s)
  unfold State.meetChange
  generalize s.settle = v at hset
  simp only []
  split
  · rename_i h
    split
    · exact hset.trans (abandonAttempt_ends.reaches h rfl nofun (absurd rfl))
    · exact hset.trans (abandonAttempt_ends.reaches h rfl nofun fun _ => rfl)
  · exact .refl s

theorem endAttempt_reaches (slotA slotR : Bool) : s.Reaches (s.endAttempt slotA slotR) := by
  have hset := settle_reaches (s := s)
  unfold State.endAttempt
  generalize s.settle = v at hset
  simp only []
  split
  · rename_i h
    exact hset.trans ((actOnSlots_ends slotA slotR).reaches h rfl nofun fun _ => rfl)
  · exact .refl s

/-! ### Receiving -/

theorem verdict_reaches (f : SampledFrame) (n : Notice) {seen : List Bool} (hrx : s.line.rx = .receiving seen) :
    s.Reaches (s.verdict f n) := by
  have hjudged : ∀ x, s.Reaches { s with line := { s.line with rx := x } } :=
    fun x => .move (.judged x (show s.line.rx ≠ _ by simp [hrx]) (show s.line.rx ≠ _ by simp [hrx]))
  unfold State.verdict
  simp only []
  split
  · exact hjudged _
  · split
    · exact hjudged _
    · split
      · exact (hjudged _).trans (.of_stock rfl)
      · split
        · rename_i hroom
          exact .move (.taken _ (show s.line.rx ≠ _ by simp [hrx]) hroom)
        · exact hjudged _

theorem judgeFrame_reaches (f : SampledFrame) : s.Reaches (s.judgeFrame f) := by
  have hset := settle_reaches (s := s)
  unfold State.judgeFrame
  generalize s.settle = v at hset
  simp only []
  split
  · rename_i seen hrx
    split
    · split
      · exact hset.trans (.move (.judged _ (show v.line.rx ≠ _ by simp [hrx]) (show v.line.rx ≠ _ by simp [hrx])))
      · exact hset.trans (verdict_reaches f _ hrx)
    · exact .refl s
  all_goals exact .refl s

theorem stretchLimit_reaches : s.Reaches s.stretchLimit := by
  unfold State.stretchLimit
  split
  · rename_i hrx
    split
    · exact .refl s
    · exact .move (.judged _ (show s.line.rx ≠ _ by simp [hrx]) (show s.line.rx ≠ _ by simp [hrx]))
  all_goals exact .refl s

theorem frameStops_reaches (served : Bool) : s.Reaches (s.frameStops served) := by
  have hset := settle_reaches (s := s)
  unfold State.frameStops
  generalize s.settle = v at hset
  simp only []
  split
  · exact .refl s
  · rename_i r hr
    have hm : r ∈ v.recv := List.mem_of_find?_eq_some hr
    have hn : r.available = false := by simpa using List.find?_some hr
    have hstop : v.Reaches (v.makeAvailable.setLine (.busy .gap) .noFrame) := by
      refine cleared_reaches (l := { state := .busy .gap, rx := .noFrame, sendBits := [] })
        (r := v.recv.map fun r => { r with available := true }) (fun _ => .inr ⟨r, hm, hn⟩) nofun (fun _ => rfl) ?_ ?_ rfl
      · rw [List.length_map]
      · simp
    exact (hset.trans hstop).trans (.of_stock (hear_stock _ _))

/-- A new frame begins at another station's start (R49, R52). -/
theorem beginReception_reaches
    (free : s.line.state = .sending ∨ s.line.state = .detached → s.line.rx ≠ .noFrame ∨ ∃ x ∈ s.recv, x.available = false) :
    s.Reaches s.beginReception :=
  dropFrame_reaches (l := { state := .busy .frame, rx := .receiving [], sendBits := [] }) free nofun (absurd rfl) rfl

theorem breakFrame_reaches (how : FrameBreak) : s.Reaches (s.breakFrame how) := by
  unfold State.breakFrame
  split
  · rename_i h
    have hrx : s.line.rx ≠ .noFrame := by rcases inFrame_iff.1 h with ⟨_, hx⟩ | ⟨_, hx⟩ <;> simp [hx]
    cases how with
    | byStart => exact beginReception_reaches fun _ => .inl hrx
    | byStop =>
      exact dropFrame_reaches (l := { state := .busy .gap, rx := .noFrame, sendBits := [] }) (fun _ => .inl hrx) nofun (fun _ => rfl) rfl
    | overlong =>
      exact dropFrame_reaches (l := { state := .busy .frame, rx := .noFrame, sendBits := [] }) (fun _ => .inl hrx) nofun (fun _ => rfl) rfl
  · exact .refl s

/-! ### Line states -/

theorem anotherStart_reaches : s.Reaches s.anotherStart := by
  unfold State.anotherStart
  split
  · rename_i h
    refine beginReception_reaches (free_of_state ?_ ?_) <;>
    · rw [Bool.or_eq_true, decide_eq_true_iff, busyFree_iff] at h
      rcases h with h | ⟨⟨why, h⟩, -⟩ <;> simp [h]
  · exact .refl s

theorem strayFall_reaches : s.Reaches s.strayFall := by
  unfold State.strayFall
  split
  · rename_i h
    refine changed_reaches (l := { state := .busy .stray, rx := .noFrame, sendBits := [] }) ?_ ?_ ?_ nofun (fun _ => rfl) rfl <;>
    rcases h with h | h <;> simp [h]
  · exact .refl s

theorem busyEnds_reaches : s.Reaches s.busyEnds := by
  unfold State.busyEnds
  split
  · rename_i h
    obtain ⟨⟨why, hl⟩, -⟩ := busyFree_iff.1 h
    exact dropFrame_reaches (l := { state := .idle, rx := .noFrame, sendBits := [] }) (free_of_state (by simp [hl]) (by simp [hl])) nofun
      (fun _ => rfl) rfl
  · exact .refl s

theorem gapEnds_reaches : s.Reaches s.gapEnds := by
  unfold State.gapEnds
  split
  · rename_i h
    have hquiet : ∀ why, s.line.state = .busy why → (why = .frame → s.line.rx = .noFrame) → s.Reaches (s.setLine .idle .noFrame) :=
      fun why hl hf => changed_reaches (l := { state := .idle, rx := .noFrame, sendBits := [] }) (by simp [hl]) (by simp [hl])
        (fun hs => hf (LineState.busy.inj (hl.symm.trans hs))) nofun (fun _ => rfl) rfl
    rcases awaitsGap_iff.1 h with hl | hl | ⟨hl, hrx | ⟨-, hall⟩⟩
    · exact hquiet _ hl nofun
    · exact hquiet _ hl nofun
    · exact hquiet _ hl fun _ => hrx
    · exact cleared_reaches (l := { state := .idle, rx := .noFrame, sendBits := [] }) (free_of_state (by simp [hl]) (by simp [hl])) nofun
        (fun _ => rfl) le_rfl hall rfl
  · exact .refl s

theorem attached_reaches : s.Reaches s.attached := by
  unfold State.attached
  split
  · rename_i h
    exact changed_reaches (l := { state := .idle, rx := .noFrame, sendBits := [] }) (by simp [h]) (by simp [h]) (by simp [h]) nofun
      (fun _ => rfl) rfl
  · exact .refl s

theorem stick_reaches (w : Wires) : s.Reaches (s.stick w) := by
  have hset := settle_reaches (s := s)
  unfold State.stick
  generalize s.settle = v at hset
  simp only []
  split
  · rename_i hc
    have hdet : v.line.state ≠ .detached := by
      simp only [State.counts, Bool.and_eq_true] at hc
      exact (measures_iff.1 hc.1).1
    by_cases hs : v.line.state = .sending
    · rw [if_pos hs]
      have hends : v.Reaches (v.abandonAttempt.setLine .stuck .noFrame) := abandonAttempt_ends.reaches hs rfl nofun fun _ => rfl
      exact (hset.trans hends).trans (.move (.handled (v.abandonAttempt.recv.filter fun r => r.available) List.filter_sublist))
    · rw [if_neg hs]
      exact hset.trans (dropFrame_reaches (l := { state := .stuck, rx := .noFrame, sendBits := [] }) (free_of_state hs hdet) nofun
        (fun _ => rfl) rfl)
  · exact .refl s

theorem unstick_reaches : s.Reaches s.unstick := by
  have hset := settle_reaches (s := s)
  unfold State.unstick
  generalize s.settle = v at hset
  simp only []
  split
  · rename_i h
    exact hset.trans (changed_reaches (l := { state := .idle, rx := .noFrame, sendBits := [] }) (by simp [h]) (by simp [h]) (by simp [h])
      nofun (fun _ => rfl) rfl)
  · exact .refl s

end Sys2Proof.Machine
end

section
/-! PROOFS. What the Timebase, the station's own commands and so every step do to the stock; and that every step keeps the sizes and the
notices lawful (R1, R21, R49, R53, R59, R60, R62, R63, R68, R117, R133, R148, R151, R162, R164). -/

namespace Sys2Proof.Machine

variable {s t : State}

/-! ### The Timebase -/

theorem beacon_reaches : s.Reaches s.beacon := by
  unfold State.beacon
  split
  · exact .of_stock rfl
  · exact offerPresence_works.reaches.trans (.of_stock rfl)

theorem windowBoundary_reaches : s.Reaches s.windowBoundary := by
  unfold State.windowBoundary
  split
  · exact .refl s
  · exact .refl s
  · exact .of_dup { s.dup with window := some 0 } (fun h => h.withQueue rfl le_rfl h.queued le_rfl) rfl
  · rename_i n hw
    have hframe : s.Reaches { s with dup := s.dup.newFrame s.settings.capacity s.peerTotal (n + 1) } :=
      .of_dup _ (fun h => h.newFrame _ _ _) rfl
    exact hframe.trans (offerShare_works _).reaches

theorem boundaryOffers_reaches (windowFirst : Bool) : s.Reaches (s.boundaryOffers windowFirst) := by
  unfold State.boundaryOffers
  split
  · exact (windowBoundary_reaches.trans expireWindow_reaches).trans beacon_reaches
  · exact beacon_reaches.trans windowBoundary_reaches

theorem switchBack_stock : s.switchBack.stock = s.stock := by
  unfold State.switchBack
  split
  · split <;> rfl
  · rfl

theorem agePeers_stock : s.agePeers.stock = s.stock := by simp [State.stock, State.agePeers]

theorem startScan_stock : s.startScan.stock = s.stock := by
  unfold State.startScan
  split
  · rfl
  · exact continueScan_stock

theorem boundary_reaches (windowFirst : Bool) : s.Reaches (s.boundary windowFirst) := by
  have hset := settle_reaches (s := s)
  unfold State.boundary
  generalize s.settle = v at hset
  have hage : v.advanceFrame.switchBack.agePeers.stock = v.stock := agePeers_stock.trans (switchBack_stock (s := v.advanceFrame))
  have hoffers : v.Reaches (v.advanceFrame.switchBack.agePeers.boundaryOffers windowFirst) := (boundaryOffers_reaches windowFirst).after hage
  generalize v.advanceFrame.switchBack.agePeers.boundaryOffers windowFirst = x at hoffers
  have htick : x.tickCatalogue.tickJobs.stock = x.stock := by simp [State.stock, State.tickCatalogue, State.tickJobs]
  have hscan : x.tickCatalogue.tickJobs.startScan.clearBatch.stock = x.stock := startScan_stock.trans htick
  exact (hset.trans hoffers).trans (.of_stock hscan)

theorem frameExpiry_reaches (windowFirst : Bool) : s.Reaches (s.frameExpiry windowFirst) := by
  unfold State.frameExpiry
  split
  · exact .refl s
  · exact boundary_reaches windowFirst

theorem fallBack_reaches (count : Nat) : s.Reaches (s.fallBack count) := .of_stock rfl

theorem loseReference_reaches (count : Nat) (windowFirst : Bool) : s.Reaches (s.loseReference count windowFirst) := by
  have hfall : s.Reaches (s.settle.fallBack count) := settle_reaches.trans (fallBack_reaches count)
  unfold State.loseReference
  split
  · simp only []
    split
    · exact hfall.trans (boundary_reaches windowFirst)
    · exact hfall
  · exact .refl s

theorem referenceAbsent_reaches : s.Reaches s.referenceAbsent := by
  unfold State.referenceAbsent
  split <;> exact .of_stock rfl

theorem timebaseRetry_reaches : s.Reaches (timebaseRetry s).1 := by
  unfold timebaseRetry
  split <;> exact .of_stock rfl

/-! ### The station's own commands -/

/-- CONFIGURE is accepted before the station runs (R188, R189). -/
theorem configure_reaches (c : Settings) : s.Reaches (configure c s).1 := by
  unfold configure
  split
  · exact .refl s
  · rename_i hr
    split
    · refine .move ?_
      have hstock : (s.accept c).stock = { s.stock with
          running := true, cfg := some c, line := { state := .busy .attachment, rx := .noFrame, sendBits := [] } } := by
        unfold State.accept
        simp only []
        split <;> rfl
      exact hstock ▸ .configured c (Bool.eq_false_iff.2 hr)
    · exact .refl s

theorem takeRestart_reaches : s.Reaches s.takeRestart := by
  have hset := settle_reaches (s := s)
  unfold State.takeRestart
  generalize s.settle = v at hset
  have hreact : v.Reaches v.restartReactions := by
    unfold State.restartReactions
    exact returnGrants_reaches.trans (.of_watch (fun _ => Nat.zero_le _) rfl)
  exact (hset.trans hreact).trans (.of_stock (finishRestart_stock.trans rfl))

theorem takeAtOnce_reaches (c : Byte) {handle : State → Answer} (hHandle : ∀ v : State, v.Reaches (handle v).1) :
    s.Reaches (s.takeAtOnce c handle) :=
  (settle_reaches.trans (hHandle _)).trans (.of_stock (answer_stock _ _ _ _))

theorem takeAccess_reaches (a : Access) : s.Reaches (s.takeAccess a) := by
  have hset := settle_reaches (s := s)
  unfold State.takeAccess
  generalize s.settle = v at hset
  exact hset.trans (.of_stock rfl)

theorem handOver_reaches (r : Request) : s.Reaches (handOver r s) := by
  cases r with
  | nop => exact .refl s
  | configure c => exact takeAtOnce_reaches _ fun _ => configure_reaches c
  | restart => exact takeRestart_reaches
  | stationQuery => exact takeAtOnce_reaches _ .refl
  | readCause => exact takeAtOnce_reaches _ fun _ => .of_stock rfl
  | timebaseRetry => exact takeAtOnce_reaches _ fun _ => timebaseRetry_reaches
  | access a => exact takeAccess_reaches a
  | peerQuery st => exact takeAtOnce_reaches _ fun _ => peerQuery_reaches st
  | peerDrop st => exact takeAtOnce_reaches _ fun _ => peerDrop_reaches st
  | digestHold => exact takeAtOnce_reaches _ fun _ => .of_stock rfl
  | digestResume => exact takeAtOnce_reaches _ fun _ => digestResume_reaches
  | snapTake => exact takeAtOnce_reaches _ fun _ => snapTake_reaches
  | snapReady e => exact takeAtOnce_reaches _ fun _ => snapReady_reaches e
  | snapQuery e m => exact takeAtOnce_reaches _ .refl
  | snapExpire e d => exact takeAtOnce_reaches _ fun _ => snapExpire_reaches e d
  | dupExtent e t n => exact takeAtOnce_reaches _ fun _ => dupExtent_reaches e t n
  | dupEnd e => exact takeAtOnce_reaches _ fun _ => dupEnd_reaches e
  | dupHalt => exact takeAtOnce_reaches _ fun _ => dupHalt_reaches
  | windowOpen => exact takeAtOnce_reaches _ fun _ => windowOpen_reaches
  | windowClose => exact takeAtOnce_reaches _ fun _ => windowClose_reaches
  | grantTake => exact takeAtOnce_reaches _ fun _ => grantTake_reaches
  | grantDone x f => exact takeAtOnce_reaches _ fun _ => grantDone_reaches x f
  | dupQuery => exact takeAtOnce_reaches _ .refl

/-- The end of a transaction, its request handed over (R182, R183). -/
theorem endTransaction_reaches (record : Record) (trailing : Bool) : s.Reaches (s.endTransaction record trailing handOver) :=
  endTransaction_keeps (fun v => s.Reaches v) handOver (fun _ _ hl h => h.trans (.of_stock (withLink_stock hl)))
    (fun _ _ h => h.trans (.of_stock rfl)) (fun _ _ _ _ _ h => h.trans (.of_stock rfl))
    (fun r _ _ h => h.trans (handOver_reaches r)) record trailing s (.refl s)

theorem startTransaction_reaches : s.Reaches s.startTransaction := by
  unfold State.startTransaction
  split
  · exact .refl s
  · split
    · exact .of_stock rfl
    · exact .of_stock (withLink_stock (start_running _))

theorem releaseReset_reaches (straps : Station) : s.Reaches (s.releaseReset straps) := by
  unfold State.releaseReset
  split <;> exact .of_stock rfl

/-- After a power-on the stock is that of the reset state (R191). -/
theorem power_reaches (h : t.stock = State.reset.stock) : s.Reaches t := .move (h ▸ .power)

/-! ### Accesses and receipts -/

theorem accessAnswer_reaches (a : Access) : s.Reaches (accessAnswer a s).1 := by
  cases a with
  | charge n k => exact chargeAccess_reaches n k
  | credit n k => exact creditAccess_reaches n k
  | userLoad n soft hard live => exact userLoadAccess_reaches n soft hard live
  | userLimits n soft hard => exact userLimitsAccess_reaches n soft hard
  | userFreeze n => exact userFreezeAccess_reaches n
  | userThaw n => exact userThawAccess_reaches n
  | userRetire n => exact userRetireAccess_reaches n
  | userQuery n => exact withUser_reaches _ _ fun _ => .refl s
  | userResync n => exact userResyncAccess_reaches n
  | userWatch n => exact userWatchAccess_reaches n
  | userUnwatch n => exact userUnwatchAccess_reaches n
  | hold n e k => exact holdAccess_reaches n e k
  | restoreBegin n e k => exact restoreBeginAccess_reaches n e k
  | restoreProgress x k => exact restoreProgressAccess_reaches x k
  | restoreEnd x => exact restoreEndAccess_reaches x

theorem accessRequest_reaches (a : Access) : s.Reaches (s.accessRequest a (accessAnswer a)) :=
  accessRequest_keeps (fun v => s.Reaches v) a (accessAnswer a) (fun _ h => h.trans settle_reaches) (fun _ h => h.trans (.of_stock rfl))
    (fun _ h => h.trans (accessAnswer_reaches a)) (fun _ _ h => h.trans (.of_stock rfl)) (fun _ _ _ _ _ h => h.trans (.of_stock rfl)) s
    (.refl s)

theorem receive_reaches {α : Type} (pick : Notice → Option α) {act : Station → α → State → State}
    (hAct : ∀ st a v, State.Reaches v (act st a v)) : s.Reaches (s.receive pick act) :=
  receive_keeps (fun v => s.Reaches v) pick act (fun _ h => h.trans settle_reaches)
    (fun _ h => h.trans (.move (.handled _ (List.tail_sublist _)))) (fun st a v h => h.trans (hAct st a v)) s (.refl s)

theorem serveUsage_reaches : s.Reaches s.serveUsage := by
  unfold State.serveUsage
  split
  · exact receive_reaches _ fun st r _ => receiveUsage_reaches st r.1 r.2
  · exact .refl s

/-! ### Every step -/

theorem exec_request_reaches (r : Request) : ∃ t, exec r.command s = .next t ∧ s.Reaches t :=
  ⟨_, exec_command s r, endTransaction_reaches (.request r) false⟩

theorem exec_access_reaches (a : Access) : ∃ t, exec a.command s = .next t ∧ s.Reaches t :=
  ⟨_, exec_access a s, accessRequest_reaches a⟩

/-- Every command changes the stock in the ways of `Stock.Move` alone. -/
theorem exec_reaches (c : Instr) (s : State) : ∃ t, exec c s = .next t ∧ s.Reaches t := by
  cases c with
  -- Power, RESET and the edges of a transaction.
  | powerOn refclk => exact ⟨_, rfl, power_reaches rfl⟩
  | resetPinAssert => exact ⟨_, rfl, power_reaches rfl⟩
  | resetPinRelease straps => exact ⟨_, rfl, releaseReset_reaches straps⟩
  | transactionStart => exact ⟨_, rfl, startTransaction_reaches⟩
  | replyDelivered =>
    refine ⟨_, rfl, ?_⟩
    split
    · exact .refl s
    · exact .of_stock (withLink_stock (deliver_running _))
  | linkTransactionOther edges ldi => exact ⟨_, rfl, endTransaction_reaches _ _⟩
  -- The requests.
  | localRequestTaken a => exact exec_request_reaches (.access a)
  | nop => exact exec_request_reaches .nop
  | configure c => exact exec_request_reaches (.configure c)
  | restart => exact exec_request_reaches .restart
  | stationQuery => exact exec_request_reaches .stationQuery
  | readCause => exact exec_request_reaches .readCause
  | timebaseRetry => exact exec_request_reaches .timebaseRetry
  | peerQuery st => exact exec_request_reaches (.peerQuery st)
  | peerDrop st => exact exec_request_reaches (.peerDrop st)
  | digestHold => exact exec_request_reaches .digestHold
  | digestResume => exact exec_request_reaches .digestResume
  | snapTake => exact exec_request_reaches .snapTake
  | snapReady e => exact exec_request_reaches (.snapReady e)
  | snapQuery e m => exact exec_request_reaches (.snapQuery e m)
  | snapExpire e d => exact exec_request_reaches (.snapExpire e d)
  | dupExtent e t n => exact exec_request_reaches (.dupExtent e t n)
  | dupEnd e => exact exec_request_reaches (.dupEnd e)
  | dupHalt => exact exec_request_reaches .dupHalt
  | windowOpen => exact exec_request_reaches .windowOpen
  | windowClose => exact exec_request_reaches .windowClose
  | grantTake => exact exec_request_reaches .grantTake
  | grantDone x f => exact exec_request_reaches (.grantDone x f)
  | dupQuery => exact exec_request_reaches .dupQuery
  -- The accesses of waiting requests, and the other clients of class 1.
  | charge n k => exact exec_access_reaches (.charge n k)
  | credit n k => exact exec_access_reaches (.credit n k)
  | userLoad n soft hard live => exact exec_access_reaches (.userLoad n soft hard live)
  | userLimits n soft hard => exact exec_access_reaches (.userLimits n soft hard)
  | userFreeze n => exact exec_access_reaches (.userFreeze n)
  | userThaw n => exact exec_access_reaches (.userThaw n)
  | userRetire n => exact exec_access_reaches (.userRetire n)
  | userQuery n => exact exec_access_reaches (.userQuery n)
  | userResync n => exact exec_access_reaches (.userResync n)
  | userWatch n => exact exec_access_reaches (.userWatch n)
  | userUnwatch n => exact exec_access_reaches (.userUnwatch n)
  | hold n e k => exact exec_access_reaches (.hold n e k)
  | restoreBegin n e k => exact exec_access_reaches (.restoreBegin n e k)
  | restoreProgress x k => exact exec_access_reaches (.restoreProgress x k)
  | restoreEnd x => exact exec_access_reaches (.restoreEnd x)
  | idleTimeoutRelease => exact ⟨_, rfl, serveIdleRelease_reaches⟩
  | restartRelease => exact ⟨_, rfl, serveRestartRelease_reaches⟩
  -- Frame boundaries, and what follows them.
  | frameBoundary windowFirst => exact ⟨_, rfl, frameExpiry_reaches windowFirst⟩
  | peerGoneAge st => exact ⟨_, rfl, .of_stock (agePeer_stock st)⟩
  | askTimerExpiry => exact ⟨_, rfl, expireAsk_works.reaches⟩
  | closeTimerExpiry e => exact ⟨_, rfl, .of_stock (expireClose_stock e)⟩
  | idleLimitReached slot =>
    refine ⟨_, rfl, ?_⟩
    split
    · exact .of_stock (offerRelease_stock slot)
    · exact .refl s
  | windowLimitExpiry => exact ⟨_, rfl, expireWindow_reaches⟩
  | gapTimerReached => exact ⟨_, rfl, reachGap_reaches⟩
  | referenceFallback count windowFirst => exact ⟨_, rfl, loseReference_reaches count windowFirst⟩
  | referenceEdgeReturns => exact ⟨_, rfl, .of_stock rfl⟩
  | referenceMonitorAbsent => exact ⟨_, rfl, referenceAbsent_reaches⟩
  -- The scans and the sweeps.
  | graceScanVisit => exact ⟨_, rfl, serveScanVisit_reaches⟩
  | digestSweepVisit => exact ⟨_, rfl, serveDigestVisit_reaches⟩
  | expirySweepStep => exact ⟨_, rfl, serveExpiryStep_reaches⟩
  | dropSweepStep => exact ⟨_, rfl, serveDropStep_reaches⟩
  -- The receipts.
  | usageReceipt => exact ⟨_, rfl, serveUsage_reaches⟩
  | epochProposeReceipt => exact ⟨_, rfl, receive_reaches _ fun st e _ => receiveProposal_reaches st e⟩
  | epochReadyReceipt => exact ⟨_, rfl, receive_reaches _ fun st e _ => receiveReady_reaches st e⟩
  | epochLatestReceipt => exact ⟨_, rfl, receive_reaches _ fun _ l _ => hearLatest_reaches l⟩
  | shareReceipt => exact ⟨_, rfl, receive_reaches _ fun st _ _ => .of_stock (setPeer_stock st _)⟩
  | presenceReceipt => exact ⟨_, rfl, receive_reaches _ fun st l _ => receivePresence_reaches st l⟩
  -- The Peer Line.
  | noticeSendStart => exact ⟨_, rfl, startSending_reaches⟩
  | arbitrationLost bit => exact ⟨_, rfl, loseArbitration_reaches bit⟩
  | stationNumberClash bit => exact ⟨_, rfl, meetClash_reaches bit⟩
  | sendAttemptEnd slotA slotR => exact ⟨_, rfl, endAttempt_reaches slotA slotR⟩
  | retiringRecordFreed n => exact ⟨_, rfl, freeRetired_reaches n⟩
  | reportDueAfterLoss n => exact ⟨_, rfl, .of_stock (dueAfterLoss_stock n)⟩
  | noticeVerdict frame => exact ⟨_, rfl, judgeFrame_reaches frame⟩
  | stretchTimeout => exact ⟨_, rfl, stretchLimit_reaches⟩
  | stretchEntryFreed => exact ⟨_, rfl, takeStretched_reaches⟩
  | noticeAvailable served => exact ⟨_, rfl, frameStops_reaches served⟩
  | frameBroken how => exact ⟨_, rfl, breakFrame_reaches how⟩
  | strayClocking => exact ⟨_, rfl, strayFall_reaches⟩
  | busyTimeout => exact ⟨_, rfl, busyEnds_reaches⟩
  | idleGapEnd => exact ⟨_, rfl, gapEnds_reaches⟩
  | attachmentEnd => exact ⟨_, rfl, attached_reaches⟩
  | lineStuck wires => exact ⟨_, rfl, stick_reaches wires⟩
  | lineRestored => exact ⟨_, rfl, unstick_reaches⟩
  | anotherStationStart => exact ⟨_, rfl, anotherStart_reaches⟩
  | attemptAbandoned byStart => exact ⟨_, rfl, meetChange_reaches byStart⟩

/-- Every step changes the stock in those ways. -/
theorem step_reaches (h : step s = .next t) : s.Reaches t := by
  unfold step at h
  split at h
  · cases h
    exact .refl s
  · rename_i c rest hp
    obtain ⟨u, hu, hr⟩ := exec_reaches c { s with pending := rest }
    cases hu.symm.trans h
    exact hr.after rfl

/-- A property of the stock that every kind of change keeps is kept by every step. -/
theorem kept_of_moves {P : Stock → Prop} {inv : State → Prop} (hinv : ∀ s : State, P s.stock ↔ inv s)
    (hP : ∀ a b : Stock, a.Move b → P a → P b) : Kept inv :=
  fun s t h hstep => (hinv t).1 ((step_reaches hstep).keeps hP ((hinv s).2 h))

/-- Settles O58: every kind of change keeps the sizes. -/
theorem everyStepKeepsQueuesAndTablesLawful : Obligations.EveryStepKeepsQueuesAndTablesLawful :=
  kept_of_moves (fun _ => sized_iff) fun _ _ => Stock.Move.sized

/-- Settles O59: every kind of change keeps the notices in agreement with the line. -/
theorem everyStepKeepsNoticesLawful : Obligations.EveryStepKeepsNoticesLawful :=
  kept_of_moves (fun _ => noticed_iff) fun _ _ => Stock.Move.noticed

end Sys2Proof.Machine
end

section
/-! PROOFS. The offers of the outbound queue, and withdrawal (R36, R59 to R61). -/

namespace Sys2Proof.Machine

variable {s : State} {o : Outbound} {same p : Notice → Bool} {n : Notice} {a b : List QNotice} {q : QNotice}

/-! ### Entering the queue -/

/-- A notice enters behind those that go before it and ahead of the first that follows it (R59). -/
theorem insertNotice_between (ha : ∀ x ∈ a, x.notice.priority ≤ q.notice.priority)
    (hb : ∀ x, b.head? = some x → q.notice.priority < x.notice.priority) : insertNotice q (a ++ b) = a ++ q :: b := by
  induction a with
  | nil =>
    cases b with
    | nil => rfl
    | cons x xs => simp [insertNotice, hb x rfl]
  | cons x xs ih =>
    have hx : ¬ q.notice.priority < x.notice.priority := Nat.not_lt.2 (ha x List.mem_cons_self)
    rw [List.cons_append, insertNotice, if_neg hx, ih fun y hy => ha y (List.mem_cons_of_mem _ hy), List.cons_append]

theorem has_iff : o.has same = true ↔ ∃ q ∈ o.queue, same q.notice = true := List.any_eq_true

theorem has_eq_false : o.has same = false ↔ ∀ q ∈ o.queue, same q.notice = false := by simp [Outbound.has]

/-- The notice in transmission is replaced by its successor (R60). -/
theorem replace_sending (final : Bool) (h : ∃ q ∈ o.queue, same q.notice = true ∧ q.sending = true) :
    o.replace same n final = { o with successor := some { notice := n, final := final } } := by
  have hs : o.sends same = true := by
    obtain ⟨q, hq, hsame, hsend⟩ := h
    exact List.any_eq_true.2 ⟨q, hq, by simp [hsame, hsend]⟩
  unfold Outbound.replace
  rw [if_pos hs]

/-- A notice that waits is replaced in its place (R60). -/
theorem replace_waiting (final : Bool) (h : ∀ q ∈ o.queue, same q.notice = true → q.sending = false) (hl : o.queue = a ++ q :: b)
    (hq : same q.notice = true) (ha : ∀ x ∈ a, same x.notice = false) :
    o.replace same n final = { o with queue := a ++ { q with notice := n, attempts := 0, final := final } :: b } := by
  have hs : ¬ o.sends same = true := by
    intro hs
    obtain ⟨x, hx, hxs⟩ := List.any_eq_true.1 hs
    rw [Bool.and_eq_true] at hxs
    simp [h x hx hxs.1] at hxs
  unfold Outbound.replace
  rw [if_neg hs, hl, modifyFirst_at _ ha hq]

/-! ### Offers -/

theorem offer_queued {room : Bool} (h : ∃ q ∈ o.queue, same q.notice = true) : o.offer same room n = o.replace same n false := by
  unfold Outbound.offer
  rw [if_pos (has_iff.2 h)]

theorem offer_enters (h : ∀ q ∈ o.queue, same q.notice = false) : o.offer same true n = o.append n false := by
  unfold Outbound.offer
  rw [if_neg (by simp [has_eq_false.2 h]), if_pos rfl]

theorem offer_refused (h : ∀ q ∈ o.queue, same q.notice = false) : o.offer same false n = o := by
  unfold Outbound.offer
  rw [if_neg (by simp [has_eq_false.2 h]), if_neg (by simp)]

/-- What an offer of USAGE, SHARE or PRESENCE comes to (R59). -/
theorem offer_offered {room : Bool} {fits : Prop} (hroom : room = true ↔ fits) :
    ((∃ q ∈ s.out.queue, same q.notice = true) →
      { s with out := s.out.offer same room n } = { s with out := s.out.replace same n false }) ∧
    ((∀ q ∈ s.out.queue, same q.notice = false) →
      (fits → { s with out := s.out.offer same room n } =
        { s with out := { s.out with queue := insertNotice (enter n false) s.out.queue } }) ∧
      (¬ fits → { s with out := s.out.offer same room n } = s)) := by
  refine ⟨fun h => by rw [offer_queued h], fun h => ⟨fun hf => ?_, fun hf => ?_⟩⟩
  · rw [hroom.2 hf, offer_enters h]
    rfl
  · rw [Bool.eq_false_iff.2 fun hr => hf (hroom.1 hr), offer_refused h]

/-! ### Epoch notices -/

/-- No notice of the queue that meets `p` waits. -/
def NoneWaits (p : Notice → Bool) (l : List QNotice) : Prop := ∀ x ∈ l, ¬(p x.notice = true ∧ x.sending = false)

theorem NoneWaits.not {l : List QNotice} (h : NoneWaits p l) : ∀ x ∈ l, (p x.notice && !x.sending) = false := by
  intro x hx
  simpa using h x hx

theorem NoneWaits.find {l : List QNotice} (h : NoneWaits p l) : l.find? (fun q => p q.notice && !q.sending) = none := by
  simpa using h.not

/-- A notice that waits and is of none of the other kinds is an epoch notice (R47). -/
theorem isEpoch_of_not {n : Notice} (hu : n.isUsage = false) (hp : n.isPresence = false) (hs : n.isShare = false) : n.isEpoch = true := by
  cases n <;> simp [Notice.isUsage, Notice.isPresence, Notice.isShare, Notice.isEpoch, Notice.priority] at hu hp hs ⊢

/-- The notice that a full queue gives up for an epoch notice (R61, log 14). -/
theorem epochVictim_eq {l : List QNotice} (hl : l = a ++ q :: b) (hq : q.sending = false)
    (h : q.notice.isUsage = true ∧ NoneWaits Notice.isUsage b ∨
      NoneWaits Notice.isUsage l ∧ q.notice.isPresence = true ∧ NoneWaits Notice.isPresence a ∨
      NoneWaits Notice.isUsage l ∧ NoneWaits Notice.isPresence l ∧ q.notice.isShare = true ∧ NoneWaits Notice.isShare a ∨
      NoneWaits Notice.isUsage l ∧ NoneWaits Notice.isPresence l ∧ NoneWaits Notice.isShare l ∧ NoneWaits Notice.isEpoch a) :
    epochVictim l = some q := by
  have hwait : ∀ {p : Notice → Bool}, p q.notice = true → (p q.notice && !q.sending) = true := by
    intro p hp
    simp [hp, hq]
  have hfind : ∀ {p : Notice → Bool}, p q.notice = true → NoneWaits p a → l.find? (fun q => p q.notice && !q.sending) = some q := by
    intro p hp ha
    rw [hl]
    exact find_at ha.not (hwait hp)
  have hnewest : NoneWaits Notice.isUsage l → newestNotice (fun q => q.notice.isUsage && !q.sending) l = none :=
    fun hu => newestNotice_none hu.not
  unfold epochVictim
  rcases h with ⟨hu, hb⟩ | ⟨hu, hp, ha⟩ | ⟨hu, hp, hs, ha⟩ | ⟨hu, hp, hs, ha⟩
  · rw [hl, newestNotice_split (hwait hu) hb.not]
  · rw [hnewest hu, hfind hp ha]
  · rw [hnewest hu, hp.find, hfind hs ha]
  · have hmem : q ∈ l := by simp [hl]
    have hnot : ∀ {p : Notice → Bool}, NoneWaits p l → p q.notice = false := fun h => by simpa [hq] using h q hmem
    rw [hnewest hu, hp.find, hs.find]
    exact hfind (isEpoch_of_not (hnot hu) (hnot hp) (hnot hs)) ha

theorem offerEpoch_queued (h : ∃ q ∈ s.out.queue, q.notice = n) : s.offerEpoch n = s := by
  have hhas : s.out.has (fun m => decide (m = n)) = true := by simpa [has_iff] using h
  unfold State.offerEpoch
  rw [if_pos hhas]

theorem offerEpoch_enters (h : ∀ q ∈ s.out.queue, q.notice ≠ n) (hroom : s.out.queue.length < Config.outboundSlots) :
    s.offerEpoch n = { s with out := s.out.append n false } := by
  have hhas : s.out.has (fun m => decide (m = n)) = false := by simpa [has_eq_false] using h
  unfold State.offerEpoch
  rw [if_neg (by simp [hhas]), if_pos hroom]

/-- The queue without the first place of a notice. -/
theorem erase_at (ha : q ∉ a) : (a ++ q :: b).erase q = a ++ b := by rw [List.erase_append_right _ ha, List.erase_cons_head]

theorem offerEpoch_displaces (h : ∀ q ∈ s.out.queue, q.notice ≠ n) (hfull : Config.outboundSlots ≤ s.out.queue.length)
    (hl : s.out.queue = a ++ q :: b) (ha : q ∉ a) (hv : epochVictim s.out.queue = some q) :
    s.offerEpoch n =
      State.depart q .displaced (State.placeWaiting { s with out := Outbound.append n false { s.out with queue := a ++ b } }) := by
  have hhas : s.out.has (fun m => decide (m = n)) = false := by simpa [has_eq_false] using h
  unfold State.offerEpoch
  rw [if_neg (by simp [hhas]), if_neg (Nat.not_lt.2 hfull), hv]
  simp only [hl, erase_at ha]

/-! ### Withdrawal -/

theorem withdraw_of_none (h : ∀ q ∈ s.out.queue, p q.notice = true → q.sending = true) : s.withdraw p = s := by
  unfold State.withdraw
  rw [List.find?_eq_none.2 (by simpa using h)]

theorem withdraw_first (hl : s.out.queue = a ++ q :: b) (hp : p q.notice = true) (hq : q.sending = false)
    (ha : ∀ x ∈ a, p x.notice = true → x.sending = true) :
    s.withdraw p = (State.depart q .withdrawn { s with out := { s.out with queue := a ++ b } }).placeWaiting := by
  have hmem : q ∉ a := fun hm => by simp [ha q hm hp] at hq
  have hfind : (a ++ q :: b).find? (fun q => p q.notice && !q.sending) = some q := find_at (by simpa using ha) (by simp [hp, hq])
  unfold State.withdraw
  rw [hl, hfind]
  simp only [erase_at hmem]

/-- Settles O45, clause by clause. -/
theorem outboundOffersAppendReplaceOrDisplace : Obligations.OutboundOffersAppendReplaceOrDisplace := by
  refine ⟨fun q a b => insertNotice_between, fun o same n final => ⟨replace_sending final, fun h a b q => replace_waiting final h⟩,
    fun s => ⟨fun user units => offer_offered usageRoom_iff, fun b => offer_offered decide_eq_true_iff, offer_offered decide_eq_true_iff,
      fun n => ⟨offerEpoch_queued, fun h => ⟨offerEpoch_enters h, fun hfull a b q hl ha hq => ?_⟩⟩,
      fun p => ⟨withdraw_of_none, fun a b q => withdraw_first⟩⟩⟩
  exact fun hv => offerEpoch_displaces h hfull hl ha (epochVictim_eq hl hq hv)

end Sys2Proof.Machine
end

section
/-! PROOFS. The ends of attempts to send: at the own stop, and without it (R50, R51, R57, R60, R63, R65, R74). -/

namespace Sys2Proof.Machine

variable {s : State} {a b : List QNotice} {q : QNotice}

/-! ### At the own stop (R57) -/

theorem anyPresent_eq_false : s.anyPresent = false ↔ ∀ p ∈ s.peers, p.state ≠ .present := by simp [State.anyPresent]

theorem actOnSlots_delivered : s.actOnSlots true false = s.endTransmission .delivered := rfl

theorem actOnSlots_unheardAlone (h : ∀ p ∈ s.peers, p.state ≠ .present) : s.actOnSlots false false = s.endTransmission .noListener := by
  unfold State.actOnSlots
  rw [if_neg (by simp), if_pos (by simp [anyPresent_eq_false.2 h])]

/-- Any other outcome counts as an attempt (R57). -/
theorem actOnSlots_counts {slotA slotR : Bool} (hd : ¬(slotA = true ∧ slotR = false))
    (hu : ¬(slotA = false ∧ slotR = false ∧ ∀ p ∈ s.peers, p.state ≠ .present)) : s.actOnSlots slotA slotR = s.failAttempt := by
  have hp : slotA = false → slotR = false → s.anyPresent ≠ false := fun hA hR hn => hu ⟨hA, hR, anyPresent_eq_false.1 hn⟩
  unfold State.actOnSlots
  rw [if_neg (by simpa using hd), if_neg (by simpa using hp)]

/-- The notice of an attempt has a successor: whatever the slots say, it leaves SUPERSEDED (R60). -/
theorem actOnSlots_succeeded {x : Successor} (slotA slotR : Bool) (h : s.out.SendsAt a q b) (hx : s.out.successor = some x) :
    s.actOnSlots slotA slotR =
      (State.depart q .superseded
        { s with out := Outbound.append x.notice x.final { queue := a ++ b, successor := none } }).placeWaiting := by
  unfold State.actOnSlots
  split
  · exact endTransmission_succeeded _ h hx
  · split
    · exact endTransmission_succeeded _ h hx
    · rw [failAttempt_ends h (.inl (Option.isSome_of_eq_some hx)), endTransmission_succeeded _ h hx]

/-- The stop of the own frame: the slots are acted on, the own-frame flag is set and the idle gap begins (R57, R63, R74). -/
theorem exec_sendAttemptEnd {t : State} {slotA slotR : Bool} (hl : s.settle.line.state = .sending)
    (ht : s.settle.actOnSlots slotA slotR = t) :
    exec (.sendAttemptEnd slotA slotR) s = .next { t with
      line := { state := .busy .gap, rx := .noFrame, sendBits := [] }
      ownFrame := true } := by
  have he : exec (.sendAttemptEnd slotA slotR) s = .next (s.endAttempt slotA slotR) := rfl
  rw [he, State.endAttempt, if_pos hl, ht]
  rfl

/-- Settles O46: the outcomes by the slots, and the successor whatever they are. -/
theorem sendAttemptsEndByTheirSlots : Obligations.SendAttemptsEndByTheirSlots := by
  intro s slotA slotR a b q
  have hexec := fun u => exec_sendAttemptEnd (s := s) (slotA := slotA) (slotR := slotR) (t := u)
  generalize s.settle = z at hexec ⊢
  intro t hl hq ha hs ends left again unheardAlone
  have sends : t.out.SendsAt a q b := ⟨hq, ha, hs⟩
  have hends : ∀ u, t.actOnSlots slotA slotR = u → ends u := fun u => hexec u hl
  refine ⟨fun hx => ⟨?_, ?_, fun hd hu => ⟨fun hn => ?_, fun hn => ?_⟩⟩, fun x hx => ?_⟩
  · rintro rfl rfl
    exact hends _ (actOnSlots_delivered.trans (endTransmission_leaves .delivered sends hx))
  · rintro ⟨rfl, rfl, hp⟩
    exact hends _ ((actOnSlots_unheardAlone hp).trans (endTransmission_leaves .noListener sends hx))
  · exact hends _ ((actOnSlots_counts hd hu).trans (failAttempt_stays sends hx (Nat.succ_lt_succ hn)))
  · have hthird : Config.maxAttempts ≤ q.attempts + 1 := Nat.succ_le_succ hn
    exact hends _
      ((actOnSlots_counts hd hu).trans ((failAttempt_ends sends (.inr hthird)).trans (endTransmission_leaves .dropped sends hx)))
  · exact hends _ (actOnSlots_succeeded slotA slotR sends hx)

/-! ### Without the own stop (R50, R51, R65) -/

theorem sentOne_iff {bit : Nat} : s.sentOne bit = true ↔ s.line.sendBits[bit]? = some true := by
  unfold State.sentOne
  rw [List.getD_eq_getElem?_getD]
  cases s.line.sendBits[bit]? <;> simp

section Sending

variable {t u : State} {bit : Nat} (hl : s.settle.line.state = .sending)
include hl

/-- Arbitration lost in the header: the frame is received with the bits sampled so far (R50). -/
theorem exec_arbitrationLost (hb : bit < 10) (h1 : s.settle.line.sendBits[bit]? = some true) (ht : s.settle.abandonAttempt = t) :
    exec (.arbitrationLost bit) s = .next { t with
      line := { state := .busy .frame, rx := .receiving (s.settle.line.sendBits.take bit ++ [false]), sendBits := [] } } := by
  have he : exec (.arbitrationLost bit) s = .next (s.loseArbitration bit) := rfl
  rw [he, State.loseArbitration, if_pos ⟨hl, hb, sentOne_iff.2 h1⟩, ht]
  rfl

/-- A clash of station numbers ends the transmission with CLASH (R51). -/
theorem exec_stationNumberClash (hb : 10 ≤ bit) (h1 : s.settle.line.sendBits[bit]? = some true) (hq : s.settle.out.SendsAt a q b)
    (ht : s.settle.endTransmission .clash = t) :
    exec (.stationNumberClash bit) s = .next (State.raise .addressClash (.station s.station) (some (.noticeKind q.notice.code))
      { t with line := { state := .busy .frame, rx := .noFrame, sendBits := [] } }) := by
  have he : exec (.stationNumberClash bit) s = .next (s.meetClash bit) := rfl
  have hfind : s.settle.sendingNotice = some q := hq.find
  rw [he, State.meetClash, if_pos ⟨hl, hb, sentOne_iff.2 h1⟩]
  simp only [hfind, ht, settle_station]
  rfl

/-- Another station's start or stop during the attempt (R51, log 17). -/
theorem exec_attemptAbandoned (byStart : Bool) (ht : s.settle.abandonAttempt = t) :
    exec (.attemptAbandoned byStart) s = .next { t with
      line := if byStart then { state := .busy .frame, rx := .receiving [], sendBits := [] }
        else { state := .busy .gap, rx := .noFrame, sendBits := [] } } := by
  have he : exec (.attemptAbandoned byStart) s = .next (s.meetChange byStart) := rfl
  rw [he, State.meetChange, if_pos hl, ht]
  cases byStart <;> rfl

end Sending

/-- A wire counted as low for more than 20 ms: an attempt is abandoned, the frame in reception is discarded, and the line is STUCK (R65). -/
theorem exec_lineStuck {w : Wires} {t : State} (hc : s.settle.counts w = true)
    (ht : (if s.settle.line.state = .sending then s.settle.abandonAttempt else s.settle) = t) :
    exec (.lineStuck w) s = .next (State.raise .lineStuck (.station s.station) (some (.wires w))
      { t with recv := t.recv.filter fun r => r.available, line := { state := .stuck, rx := .noFrame, sendBits := [] } }) := by
  have he : exec (.lineStuck w) s = .next (s.stick w) := rfl
  rw [he, State.stick, if_pos hc]
  simp only [ht, settle_station]
  rfl

/-- A wire is counted as low: DL always, CL not while the own stretch holds it (R65, log 41). -/
theorem counts_iff {w : Wires} :
    s.counts w = true ↔
      (s.line.state ≠ .detached ∧ s.line.state ≠ .stuck) ∧ (w = .dl ∨ ∀ st n, s.line.rx ≠ .stretching st n) := by
  unfold State.counts
  rw [Bool.and_eq_true, measures_iff, Bool.or_eq_true, decide_eq_true_iff, Bool.not_eq_true', stretchesCL_eq_false]

/-- Settles O47: each way by its own row, with what an abandoned attempt or a clash makes of the queue. -/
theorem attemptsWithoutAStopAreNotCounted : Obligations.AttemptsWithoutAStopAreNotCounted := by
  intro s a b q
  have hlose := fun bit u => exec_arbitrationLost (s := s) (bit := bit) (t := u)
  have hclash := fun bit u => exec_stationNumberClash (s := s) (a := a) (b := b) (q := q) (bit := bit) (t := u)
  have habandon := fun u => exec_attemptAbandoned (s := s) (t := u)
  have hstick := fun w u => exec_lineStuck (s := s) (w := w) (t := u)
  generalize s.settle = z at hlose hclash habandon hstick ⊢
  intro t hl hq ha hs superseded lost clashed waits
  have sends : t.out.SendsAt a q b := ⟨hq, ha, hs⟩
  have hlost : t.abandonAttempt = lost := by
    cases hx : t.out.successor with
    | none => simp only [lost, hx, abandonAttempt_stays sends hx]
    | some x =>
      rw [abandonAttempt_succeeded hx, endTransmission_succeeded _ sends hx]
      simp only [lost, hx]
      rfl
  have hclashed : t.endTransmission .clash = clashed := by
    cases hx : t.out.successor with
    | none => simp only [clashed, hx, endTransmission_leaves .clash sends hx]
    | some x =>
      rw [endTransmission_succeeded _ sends hx]
      simp only [clashed, hx]
      rfl
  refine ⟨fun bit h1 => ⟨fun hb => hlose bit lost hl hb h1 hlost, fun hb => hclash bit clashed hl hb h1 sends hclashed⟩,
    habandon lost hl true hlost, habandon lost hl false hlost, fun w hw => ?_⟩
  have hc : t.counts w = true := counts_iff.2 ⟨by simp [hl], hw⟩
  exact hstick w lost hc ((if_pos hl).trans hlost)

end Sys2Proof.Machine
end

section
/-! PROOFS. The verdict on a frame, the stretch, and the hearing of a station (R50, R52, R53, R55, R56, R62, R69, R86, R90). -/

namespace Sys2Proof.Machine

variable {s : State} {f : SampledFrame} {n : Notice}

/-! ### The verdict (R52, R53) -/

/-- The slot that a verdict drives, or neither. -/
def State.withSlot (slot : Option Slot) (s : State) : State := { s with line := { s.line with rx := .judged slot } }

theorem verdict_check (h : checkPasses f = false) : s.verdict f n = s.withSlot (some .slotR) := by
  unfold State.verdict
  exact if_pos h

theorem verdict_malformed (hc : checkPasses f = true) (h : noticeWellFormed f n = false) : s.verdict f n = s.withSlot (some .slotR) := by
  unfold State.verdict
  simp [hc, h, State.withSlot]

section WellFormed

variable (hc : checkPasses f = true) (hw : noticeWellFormed f n = true)
include hc hw

theorem verdict_own (h : f.station = s.station) :
    s.verdict f n = (s.raise .addressClash (.station s.station) (some (.noticeKind n.code))).withSlot none := by
  unfold State.verdict
  simp [hc, hw, h, State.withSlot]

theorem verdict_taken (h : f.station ≠ s.station) (hr : s.recv.length < Config.receiveSlots) :
    s.verdict f n =
      State.withSlot (some .slotA) { s with recv := s.recv ++ [{ sender := f.station, notice := n, available := false }] } := by
  unfold State.verdict
  simp [hc, hw, h, hr, State.withSlot]

theorem verdict_stretched (h : f.station ≠ s.station) (hr : Config.receiveSlots ≤ s.recv.length) :
    s.verdict f n = { s with line := { s.line with rx := .stretching f.station n } } := by
  unfold State.verdict
  simp [hc, hw, h, Nat.not_lt.2 hr]

end WellFormed

section Judged

variable {t : State} {seen : List Bool} (hrx : s.settle.line.rx = .receiving seen) (hp : seen <+: sampledHeader f)
include hrx hp

/-- A frame of unknown kind is ignored (R52, R53). -/
theorem exec_noticeVerdict_unknown (hn : readNotice f.kind f.payload = none) (ht : s.settle.withSlot none = t) :
    exec (.noticeVerdict f) s = .next t := by
  have he : exec (.noticeVerdict f) s = .next (s.judgeFrame f) := rfl
  rw [he]
  have hseen : seen.isPrefixOf (sampledHeader f) = true := by simpa using hp
  unfold State.judgeFrame
  generalize s.settle = v at hrx ht ⊢
  simp only [hrx, hseen, if_true, hn]
  exact congrArg _ ht

/-- A frame of known kind is judged (R53). -/
theorem exec_noticeVerdict_known (hn : readNotice f.kind f.payload = some n) (ht : s.settle.verdict f n = t) :
    exec (.noticeVerdict f) s = .next t := by
  have he : exec (.noticeVerdict f) s = .next (s.judgeFrame f) := rfl
  rw [he]
  have hseen : seen.isPrefixOf (sampledHeader f) = true := by simpa using hp
  unfold State.judgeFrame
  generalize s.settle = v at hrx ht ⊢
  simp only [hrx, hseen, if_true, hn, ht]

end Judged

/-! ### The stretch (R55, R56) -/

theorem takeStretched_room {st : Station} (hrx : s.line.rx = .stretching st n) (hr : s.recv.length < Config.receiveSlots) :
    s.takeStretched = State.withSlot (some .slotA) { s with recv := s.recv ++ [{ sender := st, notice := n, available := false }] } := by
  unfold State.takeStretched
  simp only [hrx, if_pos hr]
  rfl

theorem stretchLimit_full {st : Station} (hrx : s.line.rx = .stretching st n) (hr : Config.receiveSlots ≤ s.recv.length) :
    s.stretchLimit = s.withSlot (some .slotR) := by
  unfold State.stretchLimit
  simp only [hrx, if_neg (Nat.not_lt.2 hr)]
  rfl

/-- Settles O48: the verdicts in their order, and the ends of a stretch. -/
theorem verdictsAndStretches : Obligations.VerdictsAndStretches := by
  constructor
  · intro z seen f
    have hunknown := fun t => exec_noticeVerdict_unknown (s := z) (f := f) (t := t) (seen := seen)
    have hknown := fun n t => exec_noticeVerdict_known (s := z) (f := f) (n := n) (t := t) (seen := seen)
    generalize z.settle = v at hunknown hknown ⊢
    intro s hrx hp judged
    refine ⟨fun hn => hunknown _ hrx hp hn rfl, fun n hn => ?_⟩
    have hjudge := fun t => hknown n t hrx hp hn
    exact ⟨fun hc => hjudge _ (verdict_check hc), fun hc hw => hjudge _ (verdict_malformed hc hw),
      fun hc hw => ⟨fun h => hjudge _ (verdict_own hc hw h), fun h hr => hjudge _ (verdict_taken hc hw h hr),
        fun h hr => hjudge _ (verdict_stretched hc hw h hr)⟩⟩
  · intro s sender n hrx slotted
    refine ⟨stretchesCL_iff.2 ⟨sender, n, hrx⟩, by simp [State.slotDriven, hrx], fun hr => ?_, fun hr => ?_, fun slot => ⟨rfl, rfl⟩⟩
    · exact congrArg Host.Outcome.next (takeStretched_room hrx hr)
    · exact congrArg Host.Outcome.next (stretchLimit_full hrx hr)

/-! ### The cut of a drop sweep (R90) -/

section CutDrop

variable {st : Station} {position : Option Nat} {removed : Nat} {waiting served : Bool}

/-- A sweep for another station, or none, goes on. -/
theorem cutDrop_other (h : ∀ position removed waiting, s.sweep ≠ .drop st position removed waiting) : s.cutDrop st served = s := by
  unfold State.cutDrop
  split
  · rfl
  · rfl
  · rename_i subject position removed waiting hs
    rw [if_neg]
    rintro rfl
    exact h position removed waiting hs

/-- DROP_CUT_SHORT with the entries removed (R90). -/
def State.cutShort (st : Station) (removed : Nat) (s : State) : State :=
  { s.raise .dropCutShort (.station st) (some (.number removed)) with sweep := .idle }

/-- No step is being served, or none is left: the sweep ends where it stands (R90, log 10). -/
theorem cutDrop_between (hs : s.sweep = .drop st position removed waiting) (h : served = false ∨ s.nextUser position = none) :
    s.cutDrop st served = s.cutShort st removed := by
  have hnone : (if served then s.nextUser position else none) = none := by
    rcases h with rfl | h
    · rfl
    · rw [h, ite_self]
  unfold State.cutDrop
  simp only [hs, if_true, hnone]
  rfl

/-- A step that is being served completes first (R90). -/
theorem cutDrop_served {u : UserRec} (hs : s.sweep = .drop st position removed waiting) (hu : s.nextUser position = some u) :
    s.cutDrop st true = (s.removeStation st u).cutShort st (removed + (hasStation st u).toNat) := by
  unfold State.cutDrop
  simp only [hs, if_true, hu]
  rfl

end CutDrop

/-! ### Hearing (R62, R69, R86) -/

/-- The state with the entry of a station PRESENT and just heard (R69). -/
def State.withHeard (st : Station) (s : State) : State := s.setPeer st { s.peer st with state := .present, framesSince := 0 }

section Hear

variable {st : Station} (served : Bool) (hst : st ≠ s.station)
include hst

theorem hear_present (h : (s.peer st).state = .present) : s.hear st served = s.withHeard st := by
  unfold State.hear
  simp only [if_neg hst, h]
  rfl

theorem hear_absent (h : (s.peer st).state = .absent) :
    s.hear st served = ((s.withHeard st).raise .peerJoined (.station st) none).beginRound := by
  unfold State.hear
  simp only [if_neg hst, h]
  rfl

theorem hear_gone (h : (s.peer st).state = .gone) :
    s.hear st served = (((s.withHeard st).raise .peerReturned (.station st) none).cutDrop st served).beginRound := by
  unfold State.hear
  simp only [if_neg hst, h]
  rfl

end Hear

/-- A re-report round covers the records of the table (R86). -/
theorem beginRound_eq {k : Nat} (h : s.users.length = k) :
    s.beginRound = { s with digest := { s.digest with round := k, quiet := 0 } } := by
  subst h
  rfl

/-- A step of a drop sweep leaves the number of records. -/
theorem removeStation_users_length (st : Station) (u : UserRec) : (s.removeStation st u).users.length = s.users.length :=
  congrArg Stock.users (removeStation_stock st u)

/-- The stop of a frame whose notice was taken: it becomes available, the idle gap begins, and its sender is heard (R62, R69). -/
theorem exec_noticeAvailable {t : State} {r : RxNotice} (served : Bool) (h : s.settle.takenNotice = some r)
    (ht : (s.settle.makeAvailable.setLine (.busy .gap) .noFrame).hear r.sender served = t) :
    exec (.noticeAvailable served) s = .next t := by
  have he : exec (.noticeAvailable served) s = .next (s.frameStops served) := rfl
  rw [he]
  unfold State.frameStops
  generalize s.settle = v at h ht ⊢
  simp only [h, ht]

/-- Settles O49: by the state of the sender's entry, and for a GONE one by the drop sweep. -/
theorem availableNoticesAreHeard : Obligations.AvailableNoticesAreHeard := by
  intro s served r
  have hexec := fun t => exec_noticeAvailable (s := s) (t := t) (r := r) served
  generalize s.settle = z at hexec ⊢
  intro t hr hst p heard joins returned
  have hhear : ∀ u, (t.makeAvailable.setLine (.busy .gap) .noFrame).hear r.sender served = u →
      exec (.noticeAvailable served) s = .next u := fun u => hexec u hr
  have hjoins : ∀ u : State, u.users.length = t.users.length →
      (t.makeAvailable.setLine (.busy .gap) .noFrame).hear r.sender served = u.beginRound → joins u :=
    fun u hu h => hhear _ (h.trans (beginRound_eq hu))
  refine ⟨fun hp => hhear _ (hear_present served hst hp), fun hp => hjoins _ rfl (hear_absent served hst hp), fun hp => ?_⟩
  have hgone := hear_gone (s := t.makeAvailable.setLine (.busy .gap) .noFrame) served hst hp
  refine ⟨fun hother => hjoins _ rfl (hgone.trans (congrArg State.beginRound (cutDrop_other hother))),
    fun position removed waiting hs => ?_⟩
  refine ⟨fun h => ?_, fun u hserved hu => ?_⟩
  · exact hjoins _ rfl (hgone.trans (congrArg State.beginRound (cutDrop_between (s := returned) hs h)))
  · subst hserved
    have hcount : (if u.remote.any (fun x => x.station == r.sender) then 1 else 0) = (hasStation r.sender u).toNat := by
      unfold hasStation
      cases u.remote.any fun x => x.station == r.sender <;> rfl
    rw [hcount]
    refine hjoins _ ?_ (hgone.trans (congrArg State.beginRound (cutDrop_served (s := returned) hs hu)))
    exact removeStation_users_length r.sender u

end Sys2Proof.Machine
end

section
/-! PROOFS. Starts and breaks of frames, and the ends of the line states (R46, R49, R52, R54, R62 to R66). -/

namespace Sys2Proof.Machine

variable {s : State}

/-! ### Starts and breaks (R49, R52, R54, R64) -/

/-- The line after another station's start, with the notice of a broken frame removed (R52, R54). -/
theorem anotherStart_begins
    (h : s.line.state = .idle ∨ (∃ why, s.line.state = .busy why) ∧ ∀ st n, s.line.rx ≠ .stretching st n) :
    s.anotherStart = s.beginReception := by
  unfold State.anotherStart
  rw [if_pos (by rw [Bool.or_eq_true, decide_eq_true_iff, busyFree_iff]; exact h)]

theorem breakFrame_inFrame (how : FrameBreak) (h : (∃ seen, s.line.rx = .receiving seen) ∨ ∃ slot, s.line.rx = .judged slot) :
    s.breakFrame how =
      match how with
      | .byStart => s.beginReception
      | .byStop => s.dropFrame.setLine (.busy .gap) .noFrame
      | .overlong => s.dropFrame.setLine (.busy .frame) .noFrame := by
  unfold State.breakFrame
  cases how <;> exact if_pos (inFrame_iff.2 h)

theorem strayFall_falls (h : s.line.state = .idle ∨ s.line.state = .busy .gap) : s.strayFall = s.setLine (.busy .stray) .noFrame := by
  unfold State.strayFall
  rw [if_pos h]

/-- Settles O50: the own start, another station's, the three breaks, and stray clocking. -/
theorem startsAndBreaksOfFrames : Obligations.StartsAndBreaksOfFrames := by
  refine ⟨fun s => ?_, fun s => ?_⟩
  · have hstart := fun q rest => startSending_starts (s := s) (q := q) (rest := rest)
    have hnot := startSending_not (s := s)
    have hexec : exec .noticeSendStart s = .next s.startSending := rfl
    rw [hexec, ← settle_station s]
    generalize s.settle = z at hstart hnot ⊢
    exact ⟨fun q rest hl hq => congrArg _ (hstart q rest hl hq), fun h => congrArg _ (hnot h)⟩
  · intro dropped waits
    exact ⟨fun h => congrArg Host.Outcome.next (anotherStart_begins h),
      fun h => ⟨congrArg Host.Outcome.next (breakFrame_inFrame .byStart h), congrArg Host.Outcome.next (breakFrame_inFrame .byStop h),
        congrArg Host.Outcome.next (breakFrame_inFrame .overlong h)⟩,
      fun h => congrArg Host.Outcome.next (strayFall_falls h)⟩

/-! ### The ends of the line states (R46, R54, R63, R65, R66) -/

theorem gapEnds_idle (h : s.awaitsGap = true) : s.gapEnds = s.setLine .idle .noFrame := by
  unfold State.gapEnds
  rw [if_pos h]

theorem attached_idle (h : s.line.state = .busy .attachment) : s.attached = s.setLine .idle .noFrame := by
  unfold State.attached
  rw [if_pos h]

theorem busyEnds_idle (h : s.busyFree = true) : s.busyEnds = s.dropFrame.setLine .idle .noFrame := by
  unfold State.busyEnds
  rw [if_pos h]

/-- Both wires high for 1 ms restore a STUCK line (R66). -/
theorem exec_lineRestored {t : State} (hs : s.settle = t) (hl : t.line.state = .stuck) :
    exec .lineRestored s = .next (State.raise .lineRestored (.station s.station) none
      { t with line := { state := .idle, rx := .noFrame, sendBits := [] } }) := by
  have he : exec .lineRestored s = .next s.unstick := rfl
  have hst : t.station = s.station := hs ▸ settle_station s
  rw [he, State.unstick, hs, ← hst]
  exact congrArg _ (if_pos hl)

/-- A wire that is not counted changes nothing (R65, log 3, log 41). -/
theorem exec_lineStuck_uncounted {w : Wires} (hc : s.settle.counts w ≠ true) : exec (.lineStuck w) s = .next s := by
  have he : exec (.lineStuck w) s = .next (s.stick w) := rfl
  rw [he, State.stick, if_neg hc]

/-- Settles O51: each end by its own event. -/
theorem lineStatesEndByTheirEvents : Obligations.LineStatesEndByTheirEvents := by
  intro s line kept
  refine ⟨fun h => congrArg Host.Outcome.next (gapEnds_idle (awaitsGap_iff.2 h)),
    fun h => congrArg Host.Outcome.next (attached_idle h),
    fun hb hs => congrArg Host.Outcome.next (busyEnds_idle (busyFree_iff.2 ⟨hb, hs⟩)), ?_⟩
  have hrestored := fun t => exec_lineRestored (s := s) (t := t)
  have hstick := fun w u => exec_lineStuck (s := s) (w := w) (t := u)
  have huncounted := fun w => exec_lineStuck_uncounted (s := s) (w := w)
  generalize s.settle = z at hrestored hstick huncounted ⊢
  intro t
  refine ⟨hrestored t rfl, fun w => ⟨fun hl hw => ?_, fun hw hrx => huncounted w ?_, fun hl => huncounted w ?_⟩⟩
  · have hmeasures : (t.line.state ≠ .detached ∧ t.line.state ≠ .stuck) ∧ t.line.state ≠ .sending := by
      rcases hl with hl | ⟨why, hl⟩ <;> simp [hl]
    exact hstick w t (counts_iff.2 ⟨hmeasures.1, hw⟩) (if_neg hmeasures.2)
  · rw [ne_eq, counts_iff]
    obtain ⟨st, n, hx⟩ := hrx
    rintro ⟨-, hdl | hall⟩
    · exact hw hdl
    · exact hall st n hx
  · rw [ne_eq, counts_iff]
    rintro ⟨⟨hdet, hstuck⟩, -⟩
    exact hl.elim hdet hstuck

end Sys2Proof.Machine
end

section
/-! PROOFS. The peer entries: the gone age, PEER-QUERY, PEER-DROP and the drop sweep (R72, R88, R89, R91, R109). -/

namespace Sys2Proof.Machine

variable {s : State} {st : Station}

/-! ### The gone age (R72, R109) -/

/-- A PRESENT entry at the gone age becomes GONE with PEER_GONE, and its station leaves the required sets (R72, R109). -/
theorem agePeer_gone (hst : st ≠ s.station) (hp : (s.peer st).state = .present) (hg : s.settings.goneAge ≤ (s.peer st).framesSince) :
    s.agePeer st =
      (s.cat.map CatEntry.epoch).foldl (State.dropRequired st)
        ((s.setPeer st { s.peer st with state := .gone }).raise .peerGone (.station st) none) := by
  unfold State.agePeer
  rw [if_pos ⟨hp, hg, hst⟩]

/-- Settles O40: `agePeer_gone`, with the step for one epoch read off the entry found. -/
theorem goneAgeMakesAPeerGone : Obligations.GoneAgeMakesAPeerGone := by
  intro s st hst hp hg gone leave
  have hleave : State.dropRequired st = leave := by
    funext t e
    unfold State.dropRequired
    cases hc : t.findEpoch e with
    | none => simp only [leave, hc]
    | some c =>
      simp only [leave, hc]
      rfl
  rw [← hleave]
  exact congrArg Host.Outcome.next (agePeer_gone hst hp hg)

/-! ### PEER-QUERY and PEER-DROP (R88, R91) -/

/-- A refused number that a station bears is the own one (R88, R91). -/
theorem station_own {n : Nat} (h : 15 < n ∨ n = s.station.val) (hn : n < 16) : (⟨n, hn⟩ : Station) = s.station :=
  Fin.ext (h.resolve_left (by omega))

/-- A number above 15, or the own one, names no peer entry (R68). -/
theorem peerQuery_bad {n : Nat} (h : 15 < n ∨ n = s.station.val) : peerQuery n s = (s, .badRequest, .empty) := by
  unfold peerQuery
  split
  · rename_i hn
    exact if_pos (station_own h hn)
  · rfl

theorem peerDrop_bad {n : Nat} (h : 15 < n ∨ n = s.station.val) : peerDrop n s = (s, .badRequest, .empty) := by
  unfold peerDrop
  split
  · rename_i hn
    exact if_pos (station_own h hn)
  · rfl

/-- PEER-DROP of another station: its tests in order (R88). -/
theorem peerDrop_other (hst : st ≠ s.station) :
    peerDrop st.val s =
      if (s.peer st).state ≠ .gone then (s, .wrongState, .peerDrop)
      else if s.sweep ≠ .idle then (s, .sweepBusy, .peerDrop)
      else (s.continueDrop st none 0, .ok, .peerDrop) := by
  unfold peerDrop
  rw [dif_pos st.isLt]
  exact if_neg hst

/-- The next step waits while a record lies above the position (R89). -/
theorem continueDrop_waits {position : Option Nat} {removed : Nat} (hu : (s.nextUser position).isSome = true) :
    s.continueDrop st position removed = { s with sweep := .drop st position removed true } := by
  obtain ⟨u, hu⟩ := Option.isSome_iff_exists.1 hu
  unfold State.continueDrop
  rw [hu]

/-- With no record above the position the sweep completes (R89). -/
theorem continueDrop_completes {position : Option Nat} {removed : Nat} (hu : s.nextUser position = none) :
    s.continueDrop st position removed = s.completeDrop st removed := by
  unfold State.continueDrop
  rw [hu]

/-- A table that is not empty gives the sweep its first step (R88). -/
theorem continueDrop_starts (hu : s.users ≠ []) : s.continueDrop st none 0 = { s with sweep := .drop st none 0 true } := by
  obtain ⟨u, us, hus⟩ := List.exists_cons_of_ne_nil hu
  exact continueDrop_waits (by simp [State.nextUser, hus, above])

/-- Over an empty table the sweep completes at once, with no entry removed (log 20). -/
theorem continueDrop_empty (hu : s.users = []) : s.continueDrop st none 0 = s.completeDrop st 0 :=
  continueDrop_completes (by simp [State.nextUser, hu])

/-- Completion of a sweep that never waited leaves the Sweep Engine idle as it was. -/
theorem completeDrop_idle (hs : s.sweep = .idle) (removed : Nat) :
    s.completeDrop st removed =
      (s.setPeer st (droppedEntry (s.peer st))).raise .dropDone (.station st) (some (.number removed)) := by
  unfold State.completeDrop
  rw [← hs]
  rfl

theorem exec_peerQuery {n : Nat} (h : s.takesRequests) :
    exec (.peerQuery n) s =
      .next (State.answer (peerQuery n s.atTaking).2.1 32 false (peerQuery n s.atTaking).2.2 (peerQuery n s.atTaking).1) :=
  exec_takenAtOnce (r := .peerQuery n) h.1 (.inl h.2) rfl (by simp)

theorem exec_peerDrop {n : Nat} (h : s.takesRequests) :
    exec (.peerDrop n) s =
      .next (State.answer (peerDrop n s.atTaking).2.1 33 false (peerDrop n s.atTaking).2.2 (peerDrop n s.atTaking).1) :=
  exec_takenAtOnce (r := .peerDrop n) h.1 (.inl h.2) rfl (by simp)

/-! ### The drop sweep (R89) -/

/-- A step that waits is served when no client of classes 1 and 2 waits (R14). -/
theorem exec_dropSweepStep {position : Option Nat} {removed : Nat} (hf : s.servesClass3) (hs : s.sweep = .drop st position removed true) :
    exec .dropSweepStep s = .next (s.settle.dropStep st position removed) := by
  have he : exec .dropSweepStep s = .next s.serveDropStep := rfl
  have hserve : s.serveDropStep = s.settle.dropStep st position removed := by
    unfold State.serveDropStep
    simp only [settle_sweep, hs]
    exact if_pos hf
  rw [he, hserve]

/-- A step takes the station's entry from the next record above the position, and goes on from there (R89). -/
theorem dropStep_found {position : Option Nat} {removed : Nat} {u : UserRec} (hu : s.nextUser position = some u) :
    s.dropStep st position removed =
      (s.removeStation st u).continueDrop st (some u.user) (removed + (hasStation st u).toNat) := by
  unfold State.dropStep
  rw [hu]

/-- Settles O34: the requests by their tests, and the step by what lies above its record. -/
theorem peerDropSweepsTheStation : Obligations.PeerDropSweepsTheStation := by
  constructor
  · intro s h
    have hquery := fun n => exec_peerQuery (n := n) h
    have hdrop := fun n => exec_peerDrop (n := n) h
    rw [← atTaking_station s, ← atTaking_sweep s]
    generalize s.atTaking = v at hquery hdrop ⊢
    intro t
    refine ⟨fun n hn => ?_, fun st hst => ?_⟩
    · rw [hquery, hdrop, peerQuery_bad hn, peerDrop_bad hn]
      exact ⟨rfl, rfl⟩
    · rw [hdrop, peerDrop_other hst]
      refine ⟨fun hp => ?_, fun hp hs => ?_, fun hp hs hu => ?_, fun hp hs hu => ?_⟩
      · rw [if_pos hp]
      · rw [if_neg (not_not.2 hp), if_pos hs]
      · rw [if_neg (not_not.2 hp), if_neg (not_not.2 hs), continueDrop_starts hu]
      · rw [if_neg (not_not.2 hp), if_neg (not_not.2 hs), continueDrop_empty hu, completeDrop_idle hs]
        rfl
  · intro s st position removed u hf hs hu held
    have hexec := (exec_dropSweepStep hf hs).trans (congrArg _ (dropStep_found hu))
    generalize s.settle = v at hexec ⊢
    intro t count
    have hcount : removed + (hasStation st u).toNat = count := congrArg (removed + ·) (Bool.cond_eq_ite ..)
    rw [hexec, hcount]
    exact ⟨fun h => congrArg _ (continueDrop_waits (s := t) h), fun h => congrArg _ (continueDrop_completes (s := t) h)⟩

end Sys2Proof.Machine
end

section
/-! PROOFS. The usage exchange: what a report makes of a remote list, and the receipts of USAGE and SHARE (R71, R76 to R79). -/

namespace Sys2Proof.Machine

variable {st : Station} {x : Nat} {u : UserRec} {a b l : List RemoteEntry} {m r : RemoteEntry}

/-! ### The smallest entry (R78) -/

/-- `m` goes before `r` when a full list gives up an entry: fewer units, or as many and a higher station number (R78). -/
def RemoteEntry.GoesBefore (m r : RemoteEntry) : Prop := m.units < r.units ∨ m.units = r.units ∧ r.station < m.station

theorem smallerEntry_left (h : m.GoesBefore r) : smallerEntry m r = m := by
  unfold smallerEntry
  rcases h with h | ⟨hu, hs⟩
  · rw [if_pos h]
  · rw [if_neg (by omega), if_neg (by omega), if_neg (not_lt_of_gt hs)]

theorem smallerEntry_right (h : m.GoesBefore r) : smallerEntry r m = m := by
  unfold smallerEntry
  rcases h with h | ⟨hu, hs⟩
  · rw [if_neg (by omega), if_pos h]
  · rw [if_neg (by omega), if_neg (by omega), if_pos hs]

theorem smallerEntry_eq (m r : RemoteEntry) : smallerEntry m r = m ∨ smallerEntry m r = r := by
  unfold smallerEntry
  split_ifs <;> simp

theorem smallestEntry_mem (h : smallestEntry l = some m) : m ∈ l := by
  induction l generalizing m with
  | nil => simp [smallestEntry] at h
  | cons y ys ih =>
    cases hy : smallestEntry ys with
    | none =>
      simp only [smallestEntry, hy, Option.some.injEq] at h
      exact h ▸ List.mem_cons_self
    | some k =>
      simp only [smallestEntry, hy, Option.some.injEq] at h
      subst h
      rcases smallerEntry_eq y k with hs | hs <;> rw [hs]
      · exact List.mem_cons_self
      · exact List.mem_cons_of_mem y (ih hy)

/-- The entry that goes before all others is the one a full list gives up (R78). -/
theorem smallestEntry_at (h : ∀ r ∈ a ++ b, m.GoesBefore r) : smallestEntry (a ++ m :: b) = some m := by
  induction a with
  | nil =>
    cases hb : smallestEntry b with
    | none => simp [smallestEntry, hb]
    | some k => simp [smallestEntry, hb, smallerEntry_left (h k (smallestEntry_mem hb))]
  | cons y ys ih =>
    have hy := h y (by simp)
    have hys := ih fun r hr => h r (List.mem_cons_of_mem _ hr)
    simp [smallestEntry, hys, smallerEntry_right hy]

/-! ### Reports (R77, R78) -/

theorem hasStation_iff : hasStation st u = true ↔ ∃ r ∈ u.remote, r.station = st := by simp [hasStation]

/-- A report of 0 from a listed station removes its entry (R77). -/
theorem receiveReport_removes (h : hasStation st u = true) : receiveReport st 0 u = withoutStation st u := by
  unfold receiveReport
  rw [if_pos h, if_pos rfl]

/-- Any other report of a listed station replaces its units in place (R77). -/
theorem receiveReport_replaces (hx : x ≠ 0) (hl : u.remote = a ++ r :: b) (hr : r.station = st) (ha : ∀ y ∈ a, y.station ≠ st) :
    receiveReport st x u = { u with remote := a ++ { station := st, units := x } :: b } := by
  have hs : hasStation st u = true := hasStation_iff.2 ⟨r, by simp [hl], hr⟩
  unfold receiveReport
  rw [if_pos hs, if_neg hx, hl, modifyFirst_at _ (by simpa using ha) (by simpa using hr), hr]

/-- A report from a station that is not listed: 0 says nothing new, a list with room takes it, a full one gives up an entry or turns it away
(R77, R78). -/
theorem receiveReport_unlisted (h : hasStation st u = false) :
    receiveReport st x u =
      if x = 0 then u
      else if u.remote.length < 4 then { u with remote := u.remote ++ [{ station := st, units := x }] }
      else meetFullList st x u := by
  unfold receiveReport
  rw [if_neg (by simp [h])]
  rfl

/-- The smallest entry of a full list leaves it to a greater report, and its units count in spill (R78). -/
theorem meetFullList_evicts (hl : u.remote = a ++ m :: b) (hm : ∀ r ∈ a ++ b, m.GoesBefore r) (hd : (u.remote.map RemoteEntry.station).Nodup)
    (hx : m.units < x) :
    meetFullList st x u = { u with remote := a ++ { station := st, units := x } :: b, spill := max u.spill m.units } := by
  have ha : ∀ y ∈ a, (y.station == m.station) = false := by
    intro y hy
    rw [hl, List.map_append, List.map_cons] at hd
    have hne := (List.nodup_append.1 hd).2.2 y.station (List.mem_map_of_mem hy) m.station List.mem_cons_self
    simpa using hne
  unfold meetFullList
  rw [hl, smallestEntry_at hm]
  simp only [if_pos hx]
  rw [modifyFirst_at _ ha (by simp)]

/-- A report no greater than the smallest entry is turned away and counts in spill (R78). -/
theorem meetFullList_turnsAway (hl : u.remote = a ++ m :: b) (hm : ∀ r ∈ a ++ b, m.GoesBefore r) (hx : x ≤ m.units) :
    meetFullList st x u = { u with spill := max u.spill x } := by
  unfold meetFullList
  rw [hl, smallestEntry_at hm]
  exact if_neg (Nat.not_lt.2 hx)

/-- Settles O35: by whether the station is listed, and then by the report and the room. -/
theorem reportsUpdateTheRemoteList : Obligations.ReportsUpdateTheRemoteList := by
  intro st x u
  refine ⟨fun h => ⟨?_, fun hx a b r hl hr ha => receiveReport_replaces hx hl hr ha⟩, fun h => ?_⟩
  · rintro rfl
    exact receiveReport_removes (hasStation_iff.2 h)
  · have hs : hasStation st u = false := by
      rw [Bool.eq_false_iff, ne_eq, hasStation_iff]
      rintro ⟨r, hr, hst⟩
      exact h r hr hst
    rw [receiveReport_unlisted hs]
    refine ⟨fun hx => if_pos hx, fun hx hlen => ?_, fun hx hlen hd a b m hl hm => ?_⟩
    · rw [if_neg hx, if_pos hlen]
    · rw [if_neg hx, if_neg (by omega)]
      exact ⟨meetFullList_evicts hl hm hd, meetFullList_turnsAway hl hm⟩

/-! ### Receipts (R71, R76, R79) -/

/-- A USAGE is received into the record of its user, present and not RETIRING (R76). -/
theorem receiveUsage_found {s : State} {user : Nat} (h : s.findActive user = some u) :
    receiveUsage st user x s = s.commit u (receiveReport st x u) := by
  unfold receiveUsage
  rw [h]

/-- Otherwise it is discarded (R79). -/
theorem receiveUsage_unknown {s : State} {user : Nat} (h : s.findActive user = none) : receiveUsage st user x s = s := by
  unfold receiveUsage
  rw [h]

/-- A USAGE at the head of the receive queue is served when no client of class 1 waits (R14, R62). -/
theorem exec_usageReceipt {s : State} {user : Nat} {rest : List RxNotice} (h : s.receives st (.usage user x) rest)
    (hc : s.settle.class1 = []) : exec .usageReceipt s = .next (receiveUsage st user x (s.withRecv rest)) := by
  have he : exec .usageReceipt s = .next s.serveUsage := rfl
  have hserve : s.serveUsage = receiveUsage st user x (s.withRecv rest) := by
    unfold State.serveUsage
    rw [if_pos (by simp [hc]), receive_made h (a := (user, x)) rfl]
  rw [he, hserve]

/-- A SHARE at the head of the receive queue (R62, R71). -/
theorem exec_shareReceipt {s : State} {b : Nat} {rest : List RxNotice} (h : s.receives st (.share b) rest) :
    exec .shareReceipt s = .next (receiveShare st b (s.withRecv rest)) := by
  have he : exec .shareReceipt s = .next (s.receive Notice.backlog receiveShare) := rfl
  rw [he, receive_made h (a := b) rfl]

/-- A receipt leaves the user table as it finds it. -/
theorem withRecv_findActive (s : State) (rest : List RxNotice) (user : Nat) :
    (s.withRecv rest).findActive user = s.settle.findActive user := by
  simp only [State.findActive, State.findUser, State.withRecv]

/-- Settles O36: a USAGE by the record of its user, and a SHARE. -/
theorem usageAndShareReceipts : Obligations.UsageAndShareReceipts := by
  intro s st rest t
  refine ⟨fun user x u h hc hu => ?_, fun user x h hc hu => ?_, fun b h => exec_shareReceipt h⟩
  · rw [← withRecv_findActive s rest] at hu
    rw [exec_usageReceipt h hc, receiveUsage_found hu]
  · rw [← withRecv_findActive s rest] at hu
    rw [exec_usageReceipt h hc, receiveUsage_unknown hu]

end Sys2Proof.Machine
end

section
/-! PROOFS. The Digest Sweep: hold and resume, the gap timer, and a visit (R80 to R82, R83, R86, R87). -/

namespace Sys2Proof.Machine

variable {s : State} {u : UserRec}

/-! ### Hold, resume and the gap (R83, R87) -/

theorem exec_digestHold (h : s.takesRequests) :
    exec .digestHold s = .next (State.answer .ok 34 false (.digest s.atTaking.digest.held)
      { s.atTaking with digest := { s.atTaking.digest with held := true } }) :=
  exec_takenAtOnce (r := .digestHold) (handle := digestHold) h.1 (.inl h.2) rfl (by simp)

theorem exec_digestResume (h : s.takesRequests) :
    exec .digestResume s = .next (State.answer .ok 35 false (.digest s.atTaking.digest.held) (digestResume s.atTaking).1) :=
  exec_takenAtOnce (r := .digestResume) (handle := digestResume) h.1 (.inl h.2) rfl (by simp)

/-- A resume that ends a hold wakes the sweep (R84, R87). -/
theorem digestResume_held (h : s.digest.held = true) :
    (digestResume s).1 = { s with digest := { s.digest with held := false, quiet := 0 } } := if_pos h

/-- A resume while not held changes nothing (R87). -/
theorem digestResume_free (h : s.digest.held = false) : (digestResume s).1 = s := if_neg (by simp [h])

/-- The gap timer stays at the configured gap (R83). -/
theorem reachGap_reached (hr : s.link.running = true) (hg : s.digest.gapTimer < s.settings.digestGap) :
    s.reachGap = { s with digest := { s.digest with gapTimer := s.settings.digestGap } } := by
  unfold State.reachGap
  rw [if_pos (by simp [hr, hg])]

/-! ### A visit (R81, R82, R86) -/

/-- The visit's record: the next above the cursor, or the lowest where none lies above (R80, R82). -/
theorem digestRecord_eq (h : s.nextUser s.digest.cursor = some u ∨ s.nextUser s.digest.cursor = none ∧ s.users.head? = some u) :
    s.digestRecord = some u := by
  unfold State.digestRecord
  rcases h with h | ⟨hn, hh⟩
  · rw [h]
  · rw [hn]
    exact hh

/-- The record of a visit is one of the table. -/
theorem digestRecord_mem (h : s.digestRecord = some u) : u ∈ s.users := by
  unfold State.digestRecord at h
  split at h
  · rename_i v hv
    cases h
    exact List.mem_of_find?_eq_some hv
  · exact List.mem_of_mem_head? h

/-- A visit is offered under the conditions of R81. -/
theorem digestOffers_of (hu : s.users ≠ []) (hh : s.digest.held = false) (hw : 0 < s.digest.round ∨ s.digest.quiet < s.users.length)
    (hb : s.digest.batch < s.settings.digestBatch) (hg : s.settings.digestGap ≤ s.digest.gapTimer) (hr : usageRoom s.out.queue = true) :
    s.digestOffers = true := by
  unfold State.digestOffers
  simp [hu, hh, hw, hb, hg, hr]

/-- The visit is served when no client of classes 1 to 4 waits (R14). -/
theorem exec_digestSweepVisit (hf : s.settle.freeForClass5 = true) (ho : s.settle.digestOffers = true) (hu : s.settle.digestRecord = some u) :
    exec .digestSweepVisit s = .next (s.settle.visitDigest u) := by
  have he : exec .digestSweepVisit s = .next s.serveDigestVisit := rfl
  have hserve : s.serveDigestVisit = s.settle.visitDigest u := by
    unfold State.serveDigestVisit
    simp only [hf, ho, hu, Bool.and_self, if_true]
  rw [he, hserve]

theorem dueAtVisit_iff :
    s.dueAtVisit u = true ↔
      u.state ≠ .retiring ∧ (u.reportDue = true ∨ 0 < s.digest.round ∧ 0 < ownCharge s.settings.heldWeight u) := by
  simp [State.dueAtVisit]

/-- With room for a USAGE its offer is taken: it replaces the user's queued one, or is appended (R59, R60). -/
theorem offer_taken (same : Notice → Bool) (n : Notice) (o : Outbound) :
    o.offer same true n = if o.has same then o.replace same n false else o.append n false := by
  unfold Outbound.offer
  rw [if_pos rfl]

/-- A due record is reported: Q is offered, noted as reported, and report due cleared (R82, R86). -/
theorem visitDigest_reports (hr : usageRoom s.out.queue = true) (hd : s.dueAtVisit u = true) :
    s.visitDigest u = { s with
      out := if s.out.has (Notice.isUsageOf u.user) then
          s.out.replace (Notice.isUsageOf u.user) (.usage u.user (ownCharge s.settings.heldWeight u)) false
        else s.out.append (.usage u.user (ownCharge s.settings.heldWeight u)) false
      users := putUser { u with reported := ownCharge s.settings.heldWeight u, reportDue := false } s.users
      digest := { s.digest with cursor := some u.user, batch := s.digest.batch + 1, quiet := 0, round := s.digest.round - 1 } } := by
  unfold State.visitDigest State.offerUsage
  rw [if_pos hd, hr, offer_taken]

/-- Any other record is passed (R82). -/
theorem visitDigest_passes (hd : s.dueAtVisit u ≠ true) :
    s.visitDigest u = { s with
      digest := { s.digest with cursor := some u.user, quiet := s.digest.quiet + 1, round := s.digest.round - 1 } } := by
  unfold State.visitDigest
  exact if_neg hd

/-- Settles O37: the two requests, the gap timer, and a visit by whether its record is due. -/
theorem digestHoldsVisitsAndReports : Obligations.DigestHoldsVisitsAndReports := by
  constructor
  · refine fun s => ⟨fun h => ⟨exec_digestHold h, fun hh => ?_, fun hh => ?_⟩, fun hr hg => congrArg _ (reachGap_reached hr hg)⟩
    · rw [exec_digestResume h, digestResume_held hh, hh]
    · rw [exec_digestResume h, digestResume_free hh, hh]
  · intro s u hf
    have hexec := exec_digestSweepVisit (u := u) hf
    rw [← settle_settings s]
    generalize s.settle = v at hexec ⊢
    intro t hh hw hb hg hn hl hrec q due
    have hu := digestRecord_eq hrec
    have hr := usageRoom_iff.2 ⟨hn, hl⟩
    rw [hexec (digestOffers_of (List.ne_nil_of_mem (digestRecord_mem hu)) hh hw hb hg hr) hu]
    exact ⟨fun hd => congrArg _ (visitDigest_reports hr (dueAtVisit_iff.2 hd)),
      fun hd => congrArg _ (visitDigest_passes (mt dueAtVisit_iff.1 hd))⟩

end Sys2Proof.Machine
end

section
/-! PROOFS. The offers of a frame boundary: the beacon, and the window's share (R74, R160, R161). -/

namespace Sys2Proof.Machine

variable {s : State} {windowFirst : Bool}

/-! ### The two offers (R74, R161) -/

/-- The outbound queue after the beacon's offer, made when no own frame reached its stop (R74). -/
def State.withBeacon (s : State) (o : Outbound) : Outbound :=
  if s.ownFrame then o else o.offer Notice.isPresence (decide (o.queue.length < 8)) (.presence s.latest)

/-- The outbound queue after an offer of SHARE (R161). -/
def Outbound.withShare (b : Nat) (o : Outbound) : Outbound := o.offer Notice.isShare (decide (o.queue.length < 8)) (.share b)

theorem beacon_eq : s.beacon = { s with out := s.withBeacon s.out, ownFrame := false } := by
  unfold State.beacon State.withBeacon
  cases s.ownFrame <;> rfl

@[simp] theorem beacon_dup : s.beacon.dup = s.dup := by rw [beacon_eq]

/-! ### The window at a boundary (R160) -/

/-- A window that is not open stays so, and offers nothing. -/
theorem windowBoundary_shut (h : s.dup.window = none) : s.windowBoundary = s := by
  unfold State.windowBoundary
  rw [h]

/-- A window that stays open: the share anew, the debt repaid out of it, and SHARE (R160, R161). -/
theorem windowBoundary_stays {n : Nat} (h : s.dup.window = some (n + 2)) :
    s.windowBoundary = { s with
      dup := s.dup.newFrame s.settings.capacity s.peerTotal (n + 1), out := s.out.withShare s.dup.backlog } := by
  unfold State.windowBoundary
  rw [h]
  rfl

/-- A window that has not run out stands. -/
theorem expireWindow_stands (h : s.dup.window ≠ some 0) : s.expireWindow = s := by
  unfold State.expireWindow
  rw [if_neg h]

/-- The closing of a window that has run out, with SHARE of 0 (R157, R160). -/
theorem expireWindow_closes (h : s.dup.window = some 0) :
    s.expireWindow.dup = s.dup.closed ∧ s.expireWindow.out = s.out.withShare 0 := by
  unfold State.expireWindow
  rw [if_pos h]
  exact ⟨rfl, rfl⟩

/-! ### Both, in the order of the command (log 32) -/

theorem boundaryOffers_shut (h : s.dup.window = none) :
    (s.boundaryOffers windowFirst).dup = s.dup ∧ (s.boundaryOffers windowFirst).out = s.withBeacon s.out := by
  cases windowFirst with
  | true =>
    change s.windowBoundary.expireWindow.beacon.dup = _ ∧ s.windowBoundary.expireWindow.beacon.out = _
    rw [windowBoundary_shut h, expireWindow_stands (by simp [h]), beacon_eq]
    exact ⟨rfl, rfl⟩
  | false =>
    change s.beacon.windowBoundary.dup = _ ∧ s.beacon.windowBoundary.out = _
    rw [windowBoundary_shut (by rw [beacon_dup, h]), beacon_eq]
    exact ⟨rfl, rfl⟩

theorem boundaryOffers_stays {n : Nat} (h : s.dup.window = some (n + 2)) :
    (s.boundaryOffers windowFirst).dup = s.dup.newFrame s.settings.capacity s.peerTotal (n + 1) ∧
    (s.boundaryOffers windowFirst).out =
      if windowFirst then s.withBeacon (s.out.withShare s.dup.backlog) else (s.withBeacon s.out).withShare s.dup.backlog := by
  cases windowFirst with
  | true =>
    change s.windowBoundary.expireWindow.beacon.dup = _ ∧ s.windowBoundary.expireWindow.beacon.out = _
    rw [windowBoundary_stays h, expireWindow_stands (by simp [Dup.newFrame]), beacon_eq]
    exact ⟨rfl, rfl⟩
  | false =>
    change s.beacon.windowBoundary.dup = _ ∧ s.beacon.windowBoundary.out = _
    rw [windowBoundary_stays (n := n) (by rw [beacon_dup, h]), beacon_eq]
    exact ⟨rfl, rfl⟩

/-- Taken second, a window that runs out leaves its closing to its own row (log 6). -/
theorem boundaryOffers_runsOut (h : s.dup.window = some 1) :
    (s.boundaryOffers false).dup = { s.dup with window := some 0 } ∧ (s.boundaryOffers false).out = s.withBeacon s.out := by
  change s.beacon.windowBoundary.dup = _ ∧ s.beacon.windowBoundary.out = _
  rw [windowBoundary_runsOut _ (by rw [beacon_dup, h]), beacon_eq]
  exact ⟨rfl, rfl⟩

/-- Taken first, it closes at once, and the beacon comes after its SHARE of 0 (R160). -/
theorem boundaryOffers_closesFirst (h : s.dup.window = some 1) :
    (s.boundaryOffers true).dup = ({ s.dup with window := some 0 } : Dup).closed ∧
    (s.boundaryOffers true).out = s.withBeacon (s.out.withShare 0) := by
  obtain ⟨hdup, hout⟩ := expireWindow_closes (s := { s with dup := { s.dup with window := some 0 } }) rfl
  change s.windowBoundary.expireWindow.beacon.dup = _ ∧ s.windowBoundary.expireWindow.beacon.out = _
  rw [windowBoundary_runsOut _ h, beacon_eq, ← hdup, ← hout, expireWindow_frame]
  exact ⟨rfl, rfl⟩

/-! ### The boundary (R160) -/

@[simp] theorem atOffers_dup (t : State) : t.atOffers.dup = t.dup := by rw [atOffers_frame]

@[simp] theorem atOffers_out (t : State) : t.atOffers.out = t.out := by rw [atOffers_frame]

@[simp] theorem atOffers_withBeacon (t : State) : t.atOffers.withBeacon = t.withBeacon := by rw [atOffers_frame]; rfl

@[simp] theorem atOffers_settings (t : State) : t.atOffers.settings = t.settings := by rw [atOffers_frame]; rfl

@[simp] theorem atOffers_peerTotal (t : State) : t.atOffers.peerTotal = t.agePeers.peerTotal := by rw [atOffers_frame]

/-- Settles O53: the next state is `boundary_eq`'s, by the window that the boundary finds. -/
theorem boundariesOfferTheBeaconAndTheShare : Obligations.BoundariesOfferTheBeaconAndTheShare := by
  intro s windowFirst hs
  have hx := exec_frameBoundary s windowFirst hs
  rw [← settle_settings s]
  generalize ht : s.settle = t
  rw [boundary_eq s windowFirst ht] at hx
  refine ⟨_, hx, ?_⟩
  rw [← dupUnits_eq]
  have hshut := boundaryOffers_shut (s := t.atOffers) (windowFirst := windowFirst)
  have hstays := fun n => boundaryOffers_stays (s := t.atOffers) (windowFirst := windowFirst) (n := n)
  have hrunsOut := boundaryOffers_runsOut (s := t.atOffers)
  have hcloses := boundaryOffers_closesFirst (s := t.atOffers)
  simp only [atOffers_dup, atOffers_out, atOffers_withBeacon, atOffers_settings, atOffers_peerTotal] at hshut hstays hrunsOut hcloses
  refine ⟨hshut, hstays, ?_, ?_⟩
  · rintro h rfl
    exact hrunsOut h
  · rintro h rfl
    exact hcloses h

end Sys2Proof.Machine
end

section
/-! PROOFS. The ledgers as books: what the law of the catalogue, the holds, the jobs and the sweep reads of the state, and the changes of the
books that keep the law (R94, R95, R118, R120, R127, R136, R139, R140, 00 section 2.4). -/

namespace Sys2Proof.Machine

/-! ### The part of the state that the law reads -/

/-- What the ledgers read of a user record. -/
structure Account where
  user : Nat
  held : Nat
  reserved : Nat
  retiring : Bool

/-- What the ledgers read of a catalogue entry. -/
structure Folio where
  epoch : Epoch
  state : CatState
  heldTotal : Nat
  holdCount : Nat
  pins : Nat

def UserRec.account (u : UserRec) : Account where
  user := u.user
  held := u.held
  reserved := u.reserved
  retiring := decide (u.state = .retiring)

def CatEntry.folio (c : CatEntry) : Folio where
  epoch := c.epoch
  state := c.state
  heldTotal := c.heldTotal
  holdCount := c.holdCount
  pins := c.pins

/-- What a job reserves, written as a hold record is: for whom, of which epoch, how much (R133). -/
def Job.claim (j : Job) : Hold where
  user := j.user
  epoch := j.epoch
  units := j.remaining

/-- What a job slot reserves; a FREE one nothing. -/
def JobSlot.claim (x : JobSlot) : Option Hold := x.job.map Job.claim

/-- The books: user records, catalogue entries, the latest epoch, hold records, job slots and the sweep, as far as the law reads them. -/
structure Books where
  accounts : List Account
  folios : List Folio
  latest : Option Epoch
  holds : List Hold
  claims : List (Option Hold)
  sweep : Sweep

/-- The books of a state. -/
def State.books (s : State) : Books where
  accounts := s.users.map UserRec.account
  folios := s.cat.map CatEntry.folio
  latest := s.latest
  holds := s.holds
  claims := s.jobs.map JobSlot.claim
  sweep := s.sweep

/-! ### The law -/

/-- R94 and R95: the catalogue within its size, ascending, within the span, at most one ASKED. -/
structure CatalogueLaw (F : List Folio) (latest : Option Epoch) : Prop where
  room : F.length ≤ Config.catalogueSlots
  ascending : F.Pairwise fun x y => newer y.epoch x.epoch = true
  oneAsked : (F.filter fun c => decide (c.state = .asked)).length ≤ 1
  known : ∀ c ∈ F, ∃ l, latest = some l ∧ (l - c.epoch).toNat ≤ Config.span ∧ (c.state = .asked → c.epoch = l)

/-- A list of records of a user and an epoch, in agreement with a figure of the accounts that sums it and one of the folios that counts it. -/
structure Tally (A : List Account) (F : List Folio) (l : List Hold) (sum : Account → Nat) (count : Folio → Nat) : Prop where
  owner : ∀ r ∈ l, 0 < r.units → ∃ a ∈ A, a.user = r.user
  entry : ∀ r ∈ l, ∃ c ∈ F, c.epoch = r.epoch
  sums : ∀ a ∈ A, sum a = holdSum (fun r => r.user == a.user) l
  counts : ∀ c ∈ F, count c = (l.filter fun r => r.epoch == c.epoch).length

/-- A RETIRING user holds and reserves nothing (R34). -/
def Account.Proper (a : Account) : Prop := a.retiring = true → a.held = 0 ∧ a.reserved = 0

/-- An ASKED epoch has no hold, and neither it nor an EXPIRING one a pin (R119, R122, R135). -/
def Folio.Proper (c : Folio) : Prop :=
  (c.state = .asked → c.holdCount = 0) ∧ (c.state = .asked ∨ c.state = .expiring → c.pins = 0)

/-- An expiry sweep has its EXPIRING entry (R124, R129). -/
def SweepLaw (F : List Folio) (x : Sweep) : Prop :=
  ∀ (e : Epoch) (swept : Nat) (waiting : Bool), x = .expiry e swept waiting → ∃ c ∈ F, c.epoch = e ∧ c.state = .expiring

/-- The law of the ledgers, by its parts. -/
structure Books.Lawful (b : Books) : Prop where
  users : (b.accounts.map Account.user).Pairwise (· < ·)
  accounts : ∀ a ∈ b.accounts, a.Proper
  catalogue : CatalogueLaw b.folios b.latest
  folios : ∀ c ∈ b.folios, c.Proper
  keys : (b.holds.map fun h => (h.user, h.epoch)).Nodup
  units : ∀ h ∈ b.holds, 0 < h.units
  holds : Tally b.accounts b.folios b.holds Account.held Folio.holdCount
  totals : ∀ c ∈ b.folios, c.heldTotal = holdSum (fun h => h.epoch == c.epoch) b.holds
  slots : b.claims.length = 8
  claims : Tally b.accounts b.folios b.claims.reduceOption Account.reserved Folio.pins
  sweep : SweepLaw b.folios b.sweep

/-- The claims of the books are those of the ACTIVE jobs (R133). -/
theorem books_claims (s : State) : s.books.claims.reduceOption = s.activeJobs.map Job.claim := by
  simp only [State.books, State.activeJobs, List.reduceOption, List.filterMap_map, List.map_filterMap]
  rfl

/-- The catalogue in its order (R94, R95). -/
theorem catalogueLaw_iff {s : State} : CatalogueLaw s.books.folios s.books.latest ↔ s.catalogueLawful := by
  have hone : (s.books.folios.filter fun c => decide (c.state = .asked)).length = (s.cat.filter fun c => decide (c.state = .asked)).length := by
    rw [State.books, List.filter_map, List.length_map]
    rfl
  have hasc : (s.books.folios.Pairwise fun x y => newer y.epoch x.epoch = true) ↔ s.cat.Pairwise fun x y => newer y.epoch x.epoch = true :=
    List.pairwise_map
  constructor
  · rintro ⟨h1, h2, h3, h4⟩
    exact ⟨by simpa [State.books] using h1, hasc.1 h2, hone ▸ h3, fun c hc => h4 c.folio (List.mem_map_of_mem hc)⟩
  · rintro ⟨h1, h2, h3, h4⟩
    exact ⟨by simpa [State.books] using h1, hasc.2 h2, hone.symm ▸ h3, List.forall_mem_map.2 h4⟩

theorem holdSum_claims (p : Hold → Bool) (l : List Job) :
    holdSum p (l.map Job.claim) = ((l.filter fun j => p j.claim).map Job.remaining).sum := by
  simp [holdSum, List.filter_map, Function.comp_def, Job.claim]

theorem exists_account {s : State} {n : Nat} : (∃ a ∈ s.books.accounts, a.user = n) ↔ ∃ u ∈ s.users, u.user = n := by
  simp [State.books, UserRec.account]

theorem exists_folio {s : State} {e : Epoch} : (∃ c ∈ s.books.folios, c.epoch = e) ↔ ∃ c ∈ s.cat, c.epoch = e := by
  simp [State.books, CatEntry.folio]

/-- The law of the books is the law of the state. -/
theorem ledgersLawful_iff {s : State} : s.ledgersLawful ↔ s.books.Lawful := by
  have husers : s.books.accounts.map Account.user = s.users.map UserRec.user := by simp [State.books, Function.comp_def, UserRec.account]
  have hslots : s.books.claims.length = s.jobs.length := by simp [State.books]
  have hclaims := books_claims s
  have hsweep : SweepLaw s.books.folios s.books.sweep ↔ s.sweepLawful := by
    simp [SweepLaw, State.sweepLawful, State.books, CatEntry.folio]
  constructor
  · rintro ⟨hu, hc, ⟨hkeys, hof, hheld, hin⟩, ⟨hjobs, hres, hact, hpins⟩, hsw⟩
    refine
      { users := husers ▸ hu
        accounts := List.forall_mem_map.2 fun u hu hr => (hres u hu).2 (of_decide_eq_true hr)
        catalogue := catalogueLaw_iff.2 hc
        folios := List.forall_mem_map.2 fun c hc => ⟨(hin c hc).2.2, (hpins c hc).2⟩
        keys := hkeys
        units := fun r hr => (hof r hr).1
        holds := ⟨fun r hr _ => exists_account.2 (hof r hr).2.1, fun r hr => exists_folio.2 (hof r hr).2.2,
          List.forall_mem_map.2 hheld, List.forall_mem_map.2 fun c hc => (hin c hc).2.1⟩
        totals := List.forall_mem_map.2 fun c hc => (hin c hc).1
        slots := hslots.trans hjobs
        claims := ?_
        sweep := hsweep.2 hsw }
    rw [hclaims]
    refine ⟨List.forall_mem_map.2 fun j hj h0 => exists_account.2 ((hact j hj).1 h0),
      List.forall_mem_map.2 fun j hj => exists_folio.2 (hact j hj).2, List.forall_mem_map.2 fun u hu => ?_,
      List.forall_mem_map.2 fun c hc => ?_⟩
    · rw [holdSum_claims]
      exact (hres u hu).1
    · rw [List.filter_map, List.length_map]
      exact (hpins c hc).1
  · intro h
    have hcl := h.claims
    rw [hclaims] at hcl
    have hproper : ∀ c ∈ s.cat, c.folio.Proper := fun c hc => h.folios _ (List.mem_map_of_mem hc)
    refine ⟨husers ▸ h.users, catalogueLaw_iff.1 h.catalogue, ⟨h.keys, fun r hr => ⟨h.units r hr, ?_, ?_⟩, ?_, fun c hc => ?_⟩,
      ⟨hslots.symm.trans h.slots, fun u hu => ?_, fun j hj => ⟨fun h0 => ?_, ?_⟩, fun c hc => ?_⟩, hsweep.1 h.sweep⟩
    · exact exists_account.1 (h.holds.owner r hr (h.units r hr))
    · exact exists_folio.1 (h.holds.entry r hr)
    · exact fun u hu => h.holds.sums _ (List.mem_map_of_mem hu)
    · exact ⟨h.totals _ (List.mem_map_of_mem hc), h.holds.counts _ (List.mem_map_of_mem hc), (hproper c hc).1⟩
    · have hs := hcl.sums _ (List.mem_map_of_mem hu)
      rw [holdSum_claims] at hs
      exact ⟨hs, fun hr => h.accounts _ (List.mem_map_of_mem hu) (decide_eq_true hr)⟩
    · exact exists_account.1 (hcl.owner _ (List.mem_map_of_mem hj) h0)
    · exact exists_folio.1 (hcl.entry _ (List.mem_map_of_mem hj))
    · have hn := hcl.counts _ (List.mem_map_of_mem hc)
      rw [List.filter_map, List.length_map] at hn
      exact ⟨hn, (hproper c hc).2⟩

end Sys2Proof.Machine
end

section
/-! PROOFS. The changes of the books that keep the law: of accounts, of folios, and of the records that both are held to (R94, R95, R99 to R101, R118,
R120, R124, R127, R129, R136 to R140). -/

namespace Sys2Proof.Machine

/-! ### Sums over records -/

theorem holdSum_append (p : Hold → Bool) (l r : List Hold) : holdSum p (l ++ r) = holdSum p l + holdSum p r := by simp [holdSum]

/-- The units of a record that may be there. -/
def amount (x : Option Hold) : Nat := (x.map Hold.units).getD 0

/-- A record in the middle brings its units to the sums that it belongs to. -/
theorem holdSum_middle (p : Hold → Bool) (l r : List Hold) (x : Option Hold) (b : Prop) [Decidable b] (hx : ∀ z ∈ x, p z = true ↔ b) :
    holdSum p (l ++ x.toList ++ r) = holdSum p (l ++ r) + if b then amount x else 0 := by
  simp only [holdSum_append]
  cases x with
  | none => simp [holdSum, amount]
  | some z =>
    have hz := hx z rfl
    by_cases hb : b <;> simp [holdSum, amount, hz, hb]
    omega

/-- And one to the counts. -/
theorem count_middle (p : Hold → Bool) (l r : List Hold) (x : Option Hold) (b : Prop) [Decidable b] (hx : ∀ z ∈ x, p z = true ↔ b) :
    ((l ++ x.toList ++ r).filter p).length = ((l ++ r).filter p).length + if b then x.toList.length else 0 := by
  cases x with
  | none => simp
  | some z =>
    have hz := hx z rfl
    by_cases hb : b <;> simp [hz, hb]
    omega

theorem holdSum_eq_zero {p : Hold → Bool} {l : List Hold} : holdSum p l = 0 ↔ ∀ r ∈ l, p r = true → r.units = 0 := by
  simp only [holdSum, List.sum_eq_zero_iff, List.forall_mem_map, List.mem_filter, and_imp]

theorem units_le_holdSum {p : Hold → Bool} {l : List Hold} {z : Hold} (hz : z ∈ l) (hp : p z = true) : z.units ≤ holdSum p l :=
  List.le_sum_of_mem (List.mem_map_of_mem (List.mem_filter.2 ⟨hz, hp⟩))

theorem mem_middle {l r : List Hold} {x : Option Hold} {z : Hold} : z ∈ l ++ x.toList ++ r ↔ x = some z ∨ z ∈ l ++ r := by
  simp only [List.mem_append, Option.mem_toList]
  exact or_right_comm.trans or_comm

/-! ### Tallies -/

section Tally

variable {A : List Account} {F : List Folio} {l r : List Hold} {sum : Account → Nat} {count : Folio → Nat}

/-- A record of user `n` in epoch `e` enters, changes or leaves, and the two figures follow. -/
theorem Tally.exchange {n : Nat} {e : Epoch} {x y : Option Hold} {f : Account → Account} {g : Folio → Folio}
    (h : Tally A F (l ++ x.toList ++ r) sum count) (hx : ∀ z ∈ x, z.user = n ∧ z.epoch = e) (hy : ∀ z ∈ y, z.user = n ∧ z.epoch = e)
    (owner : 0 < amount y → ∃ a ∈ A, a.user = n) (entry : y.isSome = true → ∃ c ∈ F, c.epoch = e)
    (hf : ∀ a ∈ A, (f a).user = a.user)
    (hsum : ∀ a ∈ A, sum (f a) + (if a.user = n then amount x else 0) = sum a + if a.user = n then amount y else 0)
    (hg : ∀ c ∈ F, (g c).epoch = c.epoch)
    (hcount : ∀ c ∈ F, count (g c) + (if c.epoch = e then x.toList.length else 0) = count c + if c.epoch = e then y.toList.length else 0) :
    Tally (A.map f) (F.map g) (l ++ y.toList ++ r) sum count where
  owner := by
    intro z hz h0
    have hz' : (∃ a ∈ A, a.user = z.user) := by
      rcases mem_middle.1 hz with hz | hz
      · rw [(hy z hz).1]
        exact owner (by simpa [amount, hz] using h0)
      · exact h.owner z (mem_middle.2 (.inr hz)) h0
    obtain ⟨a, ha, hu⟩ := hz'
    exact ⟨f a, List.mem_map_of_mem ha, (hf a ha).trans hu⟩
  entry := by
    intro z hz
    have hz' : (∃ c ∈ F, c.epoch = z.epoch) := by
      rcases mem_middle.1 hz with hz | hz
      · rw [(hy z hz).2]
        exact entry (by simp [hz])
      · exact h.entry z (mem_middle.2 (.inr hz))
    obtain ⟨c, hc, hu⟩ := hz'
    exact ⟨g c, List.mem_map_of_mem hc, (hg c hc).trans hu⟩
  sums := by
    refine List.forall_mem_map.2 fun a ha => ?_
    have hs := h.sums a ha
    have hd := hsum a ha
    rw [holdSum_middle _ _ _ _ (a.user = n) fun z hz => beq_iff_eq.trans ((hx z hz).1 ▸ eq_comm)] at hs
    rw [hf a ha, holdSum_middle _ _ _ _ (a.user = n) fun z hz => beq_iff_eq.trans ((hy z hz).1 ▸ eq_comm)]
    omega
  counts := by
    refine List.forall_mem_map.2 fun c hc => ?_
    have hs := h.counts c hc
    have hd := hcount c hc
    rw [count_middle _ _ _ _ (c.epoch = e) fun z hz => beq_iff_eq.trans ((hx z hz).2 ▸ eq_comm)] at hs
    rw [hg c hc, count_middle _ _ _ _ (c.epoch = e) fun z hz => beq_iff_eq.trans ((hy z hz).2 ▸ eq_comm)]
    omega

/-- A record's units are in its user's sum. -/
theorem Tally.units_le (h : Tally A F l sum count) {z : Hold} {a : Account} (hz : z ∈ l) (ha : a ∈ A) (hu : z.user = a.user) :
    z.units ≤ sum a := by
  rw [h.sums a ha]
  exact units_le_holdSum hz (by simp [hu])

/-- And the record is counted for its epoch. -/
theorem Tally.count_pos (h : Tally A F l sum count) {z : Hold} {c : Folio} (hz : z ∈ l) (hc : c ∈ F) (he : z.epoch = c.epoch) :
    0 < count c := by
  rw [h.counts c hc]
  exact List.length_pos_of_mem (List.mem_filter.2 ⟨hz, by simp [he]⟩)

/-- Accounts and folios may change in all but what the tally reads. -/
theorem Tally.map {f : Account → Account} {g : Folio → Folio} (h : Tally A F l sum count)
    (hf : ∀ a ∈ A, (f a).user = a.user ∧ sum (f a) = sum a) (hg : ∀ c ∈ F, (g c).epoch = c.epoch ∧ count (g c) = count c) :
    Tally (A.map f) (F.map g) l sum count := by
  have hn : Tally A F ([] ++ (none : Option Hold).toList ++ l) sum count := by simpa using h
  simpa using hn.exchange (n := 0) (e := 0) (y := none) (by simp) (by simp) (by simp [amount]) (by simp) (fun a ha => (hf a ha).1)
    (fun a ha => by rw [(hf a ha).2]) (fun c hc => (hg c hc).1) fun c hc => by rw [(hg c hc).2]

/-- A user without records is entered. -/
theorem Tally.insertAccount {A' : List Account} {v : Account} (h : Tally A F l sum count) (hA : ∀ a, a ∈ A' ↔ a = v ∨ a ∈ A)
    (hv : ∀ a ∈ A, a.user ≠ v.user) (h0 : sum v = 0) : Tally A' F l sum count where
  owner := fun z hz hu => by
    obtain ⟨a, ha, he⟩ := h.owner z hz hu
    exact ⟨a, (hA a).2 (.inr ha), he⟩
  entry := h.entry
  sums := fun a ha => by
    rcases (hA a).1 ha with rfl | ha
    · rw [h0, eq_comm, holdSum_eq_zero]
      intro z hz he
      by_contra hn
      obtain ⟨b, hb, hu⟩ := h.owner z hz (Nat.pos_of_ne_zero hn)
      exact hv b hb (hu.trans (by simpa using he))
    · exact h.sums a ha
  counts := h.counts

/-- Users with nothing to their name leave. -/
theorem Tally.eraseAccount {p : Account → Bool} (h : Tally A F l sum count) (h0 : ∀ a ∈ A, p a = false → sum a = 0) :
    Tally (A.filter p) F l sum count where
  owner := fun z hz hu => by
    obtain ⟨a, ha, he⟩ := h.owner z hz hu
    refine ⟨a, List.mem_filter.2 ⟨ha, ?_⟩, he⟩
    by_contra hp
    have hs := h.sums a ha
    rw [h0 a ha (by simpa using hp), eq_comm, holdSum_eq_zero] at hs
    exact Nat.ne_of_gt hu (hs z hz (by simp [he]))
  entry := h.entry
  sums := fun a ha => h.sums a (List.mem_of_mem_filter ha)
  counts := h.counts

/-- An epoch without records is entered. -/
theorem Tally.appendFolio {c : Folio} (h : Tally A F l sum count) (hc : ∀ d ∈ F, d.epoch ≠ c.epoch) (h0 : count c = 0) :
    Tally A (F ++ [c]) l sum count where
  owner := h.owner
  entry := fun z hz => by
    obtain ⟨d, hd, he⟩ := h.entry z hz
    exact ⟨d, List.mem_append_left _ hd, he⟩
  sums := h.sums
  counts := fun d hd => by
    rcases List.mem_append.1 hd with hd | hd
    · exact h.counts d hd
    · rw [List.mem_singleton.1 hd, h0, eq_comm, List.length_eq_zero_iff, List.filter_eq_nil_iff]
      intro z hz he
      obtain ⟨d, hd, hz⟩ := h.entry z hz
      exact hc d hd (hz.trans (by simpa using he))

/-- Epochs without records leave. -/
theorem Tally.eraseFolio {p : Folio → Bool} (h : Tally A F l sum count) (h0 : ∀ c ∈ F, p c = false → count c = 0) :
    Tally A (F.filter p) l sum count where
  owner := h.owner
  entry := fun z hz => by
    obtain ⟨c, hc, he⟩ := h.entry z hz
    refine ⟨c, List.mem_filter.2 ⟨hc, ?_⟩, he⟩
    by_contra hp
    have hn := h.counts c hc
    rw [h0 c hc (by simpa using hp), eq_comm, List.length_eq_zero_iff, List.filter_eq_nil_iff] at hn
    exact hn z hz (by simp [he])
  sums := h.sums
  counts := fun c hc => h.counts c (List.mem_of_mem_filter hc)

end Tally

/-! ### The catalogue (R93 to R95) -/

/-- The distance of two epochs, modulo 65,536 (R93). -/
theorem epoch_sub (a b : Epoch) : (a - b).toNat = (65536 + a.toNat - b.toNat) % 65536 := by
  rw [BitVec.toNat_sub]
  omega

theorem newer_iff {a b : Epoch} : newer a b = true ↔ 1 ≤ (a - b).toNat ∧ (a - b).toNat ≤ 32767 := by
  unfold newer
  rw [Bool.and_eq_true, decide_eq_true_eq, decide_eq_true_eq]
  rfl

theorem newer_self (a : Epoch) : newer a a = false := by simp [newer]

section Catalogue

variable {F : List Folio} {latest : Option Epoch}

/-- No two entries are of one epoch. -/
theorem CatalogueLaw.nodup (h : CatalogueLaw F latest) : (F.map Folio.epoch).Nodup :=
  List.pairwise_map.2 (h.ascending.imp fun hn he => by simp [he, newer_self] at hn)

theorem CatalogueLaw.map {g : Folio → Folio} (h : CatalogueLaw F latest) (hg : ∀ c ∈ F, (g c).epoch = c.epoch)
    (asked : ∀ c ∈ F, (g c).state = .asked → c.state = .asked) : CatalogueLaw (F.map g) latest where
  room := by simpa using h.room
  ascending := List.pairwise_map.2 (h.ascending.imp_of_mem fun hx hy hn => by rw [hg _ hx, hg _ hy]; exact hn)
  oneAsked := by
    refine Nat.le_trans ?_ h.oneAsked
    rw [List.filter_map, List.length_map, ← List.countP_eq_length_filter, ← List.countP_eq_length_filter]
    exact List.countP_mono_left fun c hc hs => decide_eq_true (asked c hc (of_decide_eq_true hs))
  known := List.forall_mem_map.2 fun c hc => by
    obtain ⟨l, hl, hs, ha⟩ := h.known c hc
    rw [hg c hc]
    exact ⟨l, hl, hs, fun hk => ha (asked c hc hk)⟩

theorem CatalogueLaw.filter (h : CatalogueLaw F latest) (p : Folio → Bool) : CatalogueLaw (F.filter p) latest where
  room := Nat.le_trans (List.length_filter_le _ _) h.room
  ascending := h.ascending.sublist List.filter_sublist
  oneAsked := Nat.le_trans (List.filter_sublist.filter _).length_le h.oneAsked
  known := fun c hc => h.known c (List.mem_of_mem_filter hc)

/-- The latest epoch advances where no entry is ASKED and the span holds (R94). -/
theorem CatalogueLaw.advance {e : Epoch} (h : CatalogueLaw F latest) (asked : ∀ c ∈ F, c.state ≠ .asked)
    (span : ∀ c ∈ F, (e - c.epoch).toNat ≤ Config.span) : CatalogueLaw F (some e) :=
  { h with known := fun c hc => ⟨e, rfl, span c hc, fun ha => absurd ha (asked c hc)⟩ }

/-- A new entry is of the latest epoch, which no other entry has (R99, R101). -/
theorem CatalogueLaw.append {c : Folio} (h : CatalogueLaw F (some c.epoch)) (room : F.length < Config.catalogueSlots)
    (asked : ∀ d ∈ F, d.state ≠ .asked) (fresh : ∀ d ∈ F, d.epoch ≠ c.epoch) : CatalogueLaw (F ++ [c]) (some c.epoch) where
  room := by simpa using room
  ascending := by
    refine List.pairwise_append.2 ⟨h.ascending, List.pairwise_singleton _ _, fun d hd x hx => ?_⟩
    obtain ⟨l, hl, hs, -⟩ := h.known d hd
    cases hl
    rw [List.mem_singleton.1 hx, newer_iff]
    refine ⟨Nat.pos_of_ne_zero fun h0 => fresh d hd ?_, hs⟩
    exact (sub_eq_zero.1 (BitVec.eq_of_toNat_eq h0)).symm
  oneAsked := by
    have hn : F.filter (fun d => decide (d.state = .asked)) = [] := List.filter_eq_nil_iff.2 fun d hd => by simpa using asked d hd
    rw [List.filter_append, hn]
    exact List.length_filter_le _ _
  known := fun d hd => by
    rcases List.mem_append.1 hd with hd | hd
    · exact h.known d hd
    · rw [List.mem_singleton.1 hd]
      exact ⟨_, rfl, by simp, fun _ => rfl⟩

end Catalogue

/-! ### The sweep (R124, R129) -/

theorem SweepLaw.map {F : List Folio} {x : Sweep} {g : Folio → Folio} (h : SweepLaw F x)
    (hg : ∀ c ∈ F, (g c).epoch = c.epoch ∧ (c.state = .expiring → (g c).state = .expiring)) : SweepLaw (F.map g) x := by
  intro e k w hx
  obtain ⟨c, hc, he, hs⟩ := h e k w hx
  exact ⟨g c, List.mem_map_of_mem hc, (hg c hc).1.trans he, (hg c hc).2 hs⟩

theorem sweepLaw_of_not_expiry {F : List Folio} {x : Sweep} (h : ∀ e k w, x ≠ .expiry e k w) : SweepLaw F x :=
  fun e k w hx => absurd hx (h e k w)

/-! ### The books -/

section Books

variable {b : Books}

theorem map_users {A : List Account} {f : Account → Account} (hf : ∀ a ∈ A, (f a).user = a.user) :
    A.map Account.user = (A.map f).map Account.user := by
  rw [List.map_map]
  exact List.map_congr_left fun a ha => (hf a ha).symm

/-- Accounts change in nothing that is summed. -/
theorem Books.Lawful.mapAccounts (h : b.Lawful) {f : Account → Account}
    (hf : ∀ a ∈ b.accounts, (f a).user = a.user ∧ (f a).held = a.held ∧ (f a).reserved = a.reserved) (hp : ∀ a ∈ b.accounts, (f a).Proper) :
    ({ b with accounts := b.accounts.map f } : Books).Lawful :=
  { h with
    users := map_users (fun a ha => (hf a ha).1) ▸ h.users
    accounts := List.forall_mem_map.2 hp
    holds := by simpa using h.holds.map (g := id) (fun a ha => ⟨(hf a ha).1, (hf a ha).2.1⟩) fun c _ => ⟨rfl, rfl⟩
    claims := by simpa using h.claims.map (g := id) (fun a ha => ⟨(hf a ha).1, (hf a ha).2.2⟩) fun c _ => ⟨rfl, rfl⟩ }

/-- A user who is not there is entered with nothing held or reserved (R30). -/
theorem Books.Lawful.insertAccount (h : b.Lawful) {A : List Account} {v : Account} (hA : ∀ a, a ∈ A ↔ a = v ∨ a ∈ b.accounts)
    (sorted : (A.map Account.user).Pairwise (· < ·)) (hv : ∀ a ∈ b.accounts, a.user ≠ v.user) (h0 : v.held = 0 ∧ v.reserved = 0) :
    ({ b with accounts := A } : Books).Lawful :=
  { h with
    users := sorted
    accounts := fun a ha => by
      rcases (hA a).1 ha with rfl | ha
      · exact fun _ => h0
      · exact h.accounts a ha
    holds := h.holds.insertAccount hA hv h0.1
    claims := h.claims.insertAccount hA hv h0.2 }

/-- A user who holds and reserves nothing leaves (R34, R37). -/
theorem Books.Lawful.eraseAccount (h : b.Lawful) {p : Account → Bool}
    (h0 : ∀ a ∈ b.accounts, p a = false → a.held = 0 ∧ a.reserved = 0) : ({ b with accounts := b.accounts.filter p } : Books).Lawful :=
  { h with
    users := h.users.sublist (List.filter_sublist.map _)
    accounts := fun a ha => h.accounts a (List.mem_of_mem_filter ha)
    holds := h.holds.eraseAccount fun a ha hp => (h0 a ha hp).1
    claims := h.claims.eraseAccount fun a ha hp => (h0 a ha hp).2 }

/-- Entries change their states: none becomes ASKED or ceases to be EXPIRING, and what becomes EXPIRING is not pinned (R105, R108, R111, R124). -/
theorem Books.Lawful.mapFolios (h : b.Lawful) {g : Folio → Folio}
    (hg : ∀ c ∈ b.folios, ∃ x : CatState, g c = { c with state := x } ∧ (x = .asked → c.state = .asked) ∧ (c.state = .expiring → x = .expiring) ∧
      (x = .expiring → c.pins = 0)) : ({ b with folios := b.folios.map g } : Books).Lawful := by
  have he : ∀ c ∈ b.folios, (g c).epoch = c.epoch ∧ (g c).heldTotal = c.heldTotal ∧ (g c).holdCount = c.holdCount ∧ (g c).pins = c.pins := by
    intro c hc
    obtain ⟨x, hx, -⟩ := hg c hc
    simp [hx]
  refine
    { h with
      catalogue := h.catalogue.map (fun c hc => (he c hc).1) fun c hc => ?_
      folios := List.forall_mem_map.2 fun c hc => ?_
      holds := by simpa using h.holds.map (f := id) (fun a _ => ⟨rfl, rfl⟩) fun c hc => ⟨(he c hc).1, (he c hc).2.2.1⟩
      totals := List.forall_mem_map.2 fun c hc => by
        rw [(he c hc).1, (he c hc).2.1]
        exact h.totals c hc
      claims := by simpa using h.claims.map (f := id) (fun a _ => ⟨rfl, rfl⟩) fun c hc => ⟨(he c hc).1, (he c hc).2.2.2⟩
      sweep := h.sweep.map fun c hc => ⟨(he c hc).1, ?_⟩ }
  · obtain ⟨x, hx, ha, -⟩ := hg c hc
    simpa [hx] using ha
  · obtain ⟨x, hx, ha, -, hp⟩ := hg c hc
    have hf := h.folios c hc
    simp only [hx, Folio.Proper]
    exact ⟨fun hk => hf.1 (ha hk), fun hk => hk.elim (fun hk => hf.2 (.inl (ha hk))) hp⟩
  · obtain ⟨x, hx, -, hs, -⟩ := hg c hc
    simpa [hx] using hs

/-- Entries without holds and pins leave, and the sweep's is not among them (R100, R129). -/
theorem Books.Lawful.eraseFolios (h : b.Lawful) {p : Folio → Bool} (x : Sweep)
    (h0 : ∀ c ∈ b.folios, p c = false → c.holdCount = 0 ∧ c.pins = 0) (hx : SweepLaw (b.folios.filter p) x) :
    ({ b with folios := b.folios.filter p, sweep := x } : Books).Lawful :=
  { h with
    catalogue := h.catalogue.filter p
    folios := fun c hc => h.folios c (List.mem_of_mem_filter hc)
    holds := h.holds.eraseFolio fun c hc hp => (h0 c hc hp).1
    totals := fun c hc => h.totals c (List.mem_of_mem_filter hc)
    claims := h.claims.eraseFolio fun c hc hp => (h0 c hc hp).2
    sweep := hx }

/-- The latest epoch advances (R94). -/
theorem Books.Lawful.advance (h : b.Lawful) {e : Epoch} (asked : ∀ c ∈ b.folios, c.state ≠ .asked)
    (span : ∀ c ∈ b.folios, (e - c.epoch).toNat ≤ Config.span) : ({ b with latest := some e } : Books).Lawful :=
  { h with catalogue := h.catalogue.advance asked span }

/-- A new entry (R99, R101). -/
theorem Books.Lawful.appendFolio (h : b.Lawful) {e : Epoch} (latest : b.latest = some e) (room : b.folios.length < Config.catalogueSlots)
    (asked : ∀ c ∈ b.folios, c.state ≠ .asked) (fresh : ∀ c ∈ b.folios, c.epoch ≠ e) :
    ({ b with folios := b.folios ++ [{ epoch := e, state := .asked, heldTotal := 0, holdCount := 0, pins := 0 }] } : Books).Lawful := by
  have hnone : ∀ r ∈ b.holds, ¬(r.epoch == e) = true := by
    intro r hr he
    obtain ⟨c, hc, hce⟩ := h.holds.entry r hr
    exact fresh c hc (hce.trans (by simpa using he))
  have hcat := h.catalogue
  simp only [latest] at hcat
  exact
    { h with
      catalogue := latest ▸ hcat.append room asked fresh
      folios := List.forall_mem_append.2 ⟨h.folios, fun c hc => by simp [List.mem_singleton.1 hc, Folio.Proper]⟩
      holds := h.holds.appendFolio fresh rfl
      totals := List.forall_mem_append.2 ⟨h.totals, fun c hc => by
        rw [List.mem_singleton.1 hc, eq_comm, holdSum_eq_zero]
        exact fun r hr he => absurd he (hnone r hr)⟩
      claims := h.claims.appendFolio fresh rfl
      sweep := fun x k w hx => by
        obtain ⟨c, hc, hce⟩ := h.sweep x k w hx
        exact ⟨c, List.mem_append_left _ hc, hce⟩ }

theorem Books.Lawful.withSweep (h : b.Lawful) {x : Sweep} (hx : SweepLaw b.folios x) : ({ b with sweep := x } : Books).Lawful :=
  { h with sweep := hx }

theorem isSome_of_amount {y : Option Hold} (h : 0 < amount y) : y.isSome = true := by
  cases y with
  | none => exact absurd h (Nat.lt_irrefl 0)
  | some y => rfl

/-- No two hold records are of one user and epoch, also after an exchange (R120). -/
theorem keys_exchange {n : Nat} {e : Epoch} {l r : List Hold} {x y : Option Hold}
    (h : ((l ++ x.toList ++ r).map fun z => (z.user, z.epoch)).Nodup) (hx : ∀ z ∈ x, z.user = n ∧ z.epoch = e)
    (hy : ∀ z ∈ y, z.user = n ∧ z.epoch = e) (fresh : x = none → ∀ z ∈ l ++ x.toList ++ r, ¬(z.user = n ∧ z.epoch = e)) :
    ((l ++ y.toList ++ r).map fun z => (z.user, z.epoch)).Nodup := by
  cases y with
  | none => exact h.sublist (List.Sublist.map _ (by simp))
  | some y =>
    cases x with
    | some x => simpa [hx x rfl, hy y rfl] using h
    | none =>
      have hn := fresh rfl
      simp only [Option.toList_none, List.append_nil, Option.toList_some, List.append_assoc, List.singleton_append] at h hn ⊢
      rw [List.map_append, List.map_cons, List.nodup_middle, ← List.map_append]
      refine List.nodup_cons.2 ⟨fun hm => ?_, h⟩
      obtain ⟨z, hz, he⟩ := List.mem_map.1 hm
      cases Prod.mk.inj he with
      | intro hu he => exact hn z hz ⟨hu.trans (hy y rfl).1, he.trans (hy y rfl).2⟩

/-- A hold record of user `n` in epoch `e` enters, grows or leaves, with the held space of both (R120, R127). -/
theorem Books.Lawful.exchangeHold (h : b.Lawful) {n : Nat} {e : Epoch} {l r : List Hold} {x y : Option Hold} {f : Account → Account}
    {g : Folio → Folio} (hl : b.holds = l ++ x.toList ++ r) (hx : ∀ z ∈ x, z.user = n ∧ z.epoch = e)
    (hy : ∀ z ∈ y, z.user = n ∧ z.epoch = e ∧ 0 < z.units) (fresh : x = none → ∀ z ∈ b.holds, ¬(z.user = n ∧ z.epoch = e))
    (owner : y.isSome = true → ∃ a ∈ b.accounts, a.user = n) (entry : y.isSome = true → ∃ c ∈ b.folios, c.epoch = e)
    (hf : ∀ a ∈ b.accounts, (f a).user = a.user ∧ (f a).reserved = a.reserved ∧ (f a).Proper)
    (hheld : ∀ a ∈ b.accounts, (f a).held + (if a.user = n then amount x else 0) = a.held + if a.user = n then amount y else 0)
    (hg : ∀ c ∈ b.folios, (g c).epoch = c.epoch ∧ (g c).state = c.state ∧ (g c).pins = c.pins ∧ (g c).Proper)
    (hcount : ∀ c ∈ b.folios,
      (g c).holdCount + (if c.epoch = e then x.toList.length else 0) = c.holdCount + if c.epoch = e then y.toList.length else 0)
    (htotal : ∀ c ∈ b.folios, (g c).heldTotal + (if c.epoch = e then amount x else 0) = c.heldTotal + if c.epoch = e then amount y else 0) :
    ({ b with accounts := b.accounts.map f, folios := b.folios.map g, holds := l ++ y.toList ++ r } : Books).Lawful := by
  have htally := h.holds
  have hkeys := h.keys
  have hunits := h.units
  have htotals := h.totals
  rw [hl] at htally hkeys hunits fresh
  simp only [hl] at htotals
  exact
    { h with
      users := map_users (fun a ha => (hf a ha).1) ▸ h.users
      accounts := List.forall_mem_map.2 fun a ha => (hf a ha).2.2
      catalogue := h.catalogue.map (fun c hc => (hg c hc).1) fun c hc hs => (hg c hc).2.1 ▸ hs
      folios := List.forall_mem_map.2 fun c hc => (hg c hc).2.2.2
      keys := keys_exchange hkeys hx (fun z hz => ⟨(hy z hz).1, (hy z hz).2.1⟩) fresh
      units := fun z hz => (mem_middle.1 hz).elim (fun hz => (hy z hz).2.2) fun hz => hunits z (mem_middle.2 (.inr hz))
      holds := htally.exchange hx (fun z hz => ⟨(hy z hz).1, (hy z hz).2.1⟩)
        (fun h0 => owner (isSome_of_amount h0)) entry (fun a ha => (hf a ha).1) hheld (fun c hc => (hg c hc).1) hcount
      totals := List.forall_mem_map.2 fun c hc => by
        have hs := htotals c hc
        have hd := htotal c hc
        rw [holdSum_middle _ _ _ _ (c.epoch = e) fun z hz => beq_iff_eq.trans ((hx z hz).2 ▸ eq_comm)] at hs
        rw [(hg c hc).1, holdSum_middle _ _ _ _ (c.epoch = e) fun z hz => beq_iff_eq.trans ((hy z hz).2.1 ▸ eq_comm)]
        omega
      claims := h.claims.map (fun a ha => ⟨(hf a ha).1, (hf a ha).2.1⟩) fun c hc => ⟨(hg c hc).1, (hg c hc).2.2.1⟩
      sweep := h.sweep.map fun c hc => ⟨(hg c hc).1, fun hs => (hg c hc).2.1.trans hs⟩ }

/-- What a job slot reserves changes, with the reserved space of its user and the pins of its epoch (R136, R138, R140). -/
theorem Books.Lawful.exchangeClaim (h : b.Lawful) {n : Nat} {e : Epoch} {l r : List (Option Hold)} {x y : Option Hold} {f : Account → Account}
    {g : Folio → Folio} (hl : b.claims = l ++ x :: r) (hx : ∀ z ∈ x, z.user = n ∧ z.epoch = e) (hy : ∀ z ∈ y, z.user = n ∧ z.epoch = e)
    (owner : 0 < amount y → ∃ a ∈ b.accounts, a.user = n) (entry : y.isSome = true → ∃ c ∈ b.folios, c.epoch = e)
    (hf : ∀ a ∈ b.accounts, (f a).user = a.user ∧ (f a).held = a.held ∧ (f a).Proper)
    (hreserved : ∀ a ∈ b.accounts,
      (f a).reserved + (if a.user = n then amount x else 0) = a.reserved + if a.user = n then amount y else 0)
    (hg : ∀ c ∈ b.folios, (g c).epoch = c.epoch ∧ (g c).state = c.state ∧ (g c).heldTotal = c.heldTotal ∧ (g c).holdCount = c.holdCount ∧
      (g c).Proper)
    (hpins : ∀ c ∈ b.folios, (g c).pins + (if c.epoch = e then x.toList.length else 0) = c.pins + if c.epoch = e then y.toList.length else 0) :
    ({ b with accounts := b.accounts.map f, folios := b.folios.map g, claims := l ++ y :: r } : Books).Lawful := by
  have hred : ∀ z : Option Hold, (l ++ z :: r).reduceOption = l.reduceOption ++ z.toList ++ r.reduceOption := by
    intro z
    cases z <;> simp [List.reduceOption_append, List.reduceOption_cons_of_some, List.reduceOption_cons_of_none]
  have htally := h.claims
  rw [hl, hred] at htally
  exact
    { h with
      users := map_users (fun a ha => (hf a ha).1) ▸ h.users
      accounts := List.forall_mem_map.2 fun a ha => (hf a ha).2.2
      catalogue := h.catalogue.map (fun c hc => (hg c hc).1) fun c hc hs => (hg c hc).2.1 ▸ hs
      folios := List.forall_mem_map.2 fun c hc => (hg c hc).2.2.2.2
      holds := h.holds.map (fun a ha => ⟨(hf a ha).1, (hf a ha).2.1⟩) fun c hc => ⟨(hg c hc).1, (hg c hc).2.2.2.1⟩
      totals := List.forall_mem_map.2 fun c hc => by
        rw [(hg c hc).1, (hg c hc).2.2.1]
        exact h.totals c hc
      slots := by simpa [hl] using h.slots
      claims := by
        rw [hred]
        exact htally.exchange hx hy owner entry (fun a ha => (hf a ha).1) hreserved (fun c hc => (hg c hc).1) hpins
      sweep := h.sweep.map fun c hc => ⟨(hg c hc).1, fun hs => (hg c hc).2.1.trans hs⟩ }

end Books

end Sys2Proof.Machine
end

section
/-! PROOFS. What the shared updates, the outbound queue's work and the follow-on steps do to the books (R36, R37, R55, R58 to R61, R72, R85,
R100, R108 to R111, R141, R160). -/

namespace Sys2Proof.Machine

/-! ### Lists with one element to change or to remove -/

section One

variable {α β : Type} [DecidableEq β] {p : α → Bool}

/-- One key, one element. -/
theorem filter_key_length {key : α → β} {l : List α} (h : (l.map key).Nodup) (k : β) : (l.filter fun x => key x == k).length ≤ 1 := by
  have hc := List.nodup_iff_count_le_one.1 h k
  rwa [List.count, List.countP_map, List.countP_eq_length_filter] at hc

/-- After the only element that meets `p`, none does. -/
theorem not_of_filter_cons {x : α} {l : List α} (h : ((x :: l).filter p).length ≤ 1) (hx : p x = true) : ∀ y ∈ l, p y = false := by
  rw [List.filter_cons_of_pos hx, List.length_cons] at h
  have hn := List.filter_eq_nil_iff.1 (List.length_eq_zero_iff.1 (Nat.le_zero.1 (Nat.le_of_succ_le_succ h)))
  simpa using hn

theorem modifyFirst_eq_map {f : α → α} {l : List α} (h : (l.filter p).length ≤ 1) :
    modifyFirst p f l = l.map fun x => if p x = true then f x else x := by
  induction l with
  | nil => rfl
  | cons x xs ih =>
    by_cases hx : p x = true
    · have hn := not_of_filter_cons h hx
      rw [modifyFirst, if_pos hx, List.map_cons, if_pos hx, List.map_congr_left (g := id) fun y hy => by simp [hn y hy], List.map_id]
    · rw [List.filter_cons_of_neg hx] at h
      rw [modifyFirst, if_neg hx, List.map_cons, if_neg hx, ih h]

theorem eraseP_eq_filter {l : List α} (h : (l.filter p).length ≤ 1) : l.eraseP p = l.filter fun x => !p x := by
  induction l with
  | nil => rfl
  | cons x xs ih =>
    by_cases hx : p x = true
    · have hn := not_of_filter_cons h hx
      rw [List.eraseP_cons_of_pos hx, List.filter_cons_of_neg (by simp [hx]), eq_comm, List.filter_eq_self]
      simpa using hn
    · rw [List.filter_cons_of_neg hx] at h
      rw [List.eraseP_cons_of_neg hx, List.filter_cons_of_pos (by simp [hx]), ih h]

end One

/-! ### Accounts and folios of the books -/

section Keys

variable {b : Books}

theorem Books.Lawful.users_nodup (h : b.Lawful) : (b.accounts.map Account.user).Nodup := h.users.imp fun hn => Nat.ne_of_lt hn

theorem Books.Lawful.account_unique (h : b.Lawful) {a c : Account} (ha : a ∈ b.accounts) (hc : c ∈ b.accounts) (hu : a.user = c.user) :
    a = c :=
  List.inj_on_of_nodup_map h.users_nodup ha hc hu

theorem Books.Lawful.folio_unique (h : b.Lawful) {c d : Folio} (hc : c ∈ b.folios) (hd : d ∈ b.folios) (he : c.epoch = d.epoch) : c = d :=
  List.inj_on_of_nodup_map h.catalogue.nodup hc hd he

theorem Books.Lawful.of_eq {c : Books} (h : b.Lawful) (e : c = b) : c.Lawful := e ▸ h

/-- The account takes the place of its user's. -/
def Account.put (v a : Account) : Account := if a.user = v.user then v else a

theorem Account.put_user (v a : Account) : (v.put a).user = a.user := by
  unfold Account.put
  split
  · rename_i h
    exact h.symm
  · rfl

/-- A change of the folio of an epoch. -/
def Folio.onEpoch (e : Epoch) (g : Folio → Folio) (c : Folio) : Folio := if c.epoch = e then g c else c

/-- The books with an account in the place of its user's. -/
def Books.post (v : Account) (b : Books) : Books := { b with accounts := b.accounts.map v.put }

/-- The books with a change of the folio of an epoch. -/
def Books.onEpoch (e : Epoch) (g : Folio → Folio) (b : Books) : Books := { b with folios := b.folios.map (Folio.onEpoch e g) }

end Keys

/-! ### The shared updates -/

variable {s : State}

/-- Re-evaluation makes no record RETIRING, and keeps one that is (R10). -/
@[simp] theorem reevaluate_account (w g : Nat) (u : UserRec) : (reevaluate w g u).account = u.account := by
  unfold reevaluate
  cases hs : u.state with
  | under => simp only []; split <;> simp [UserRec.account, hs]
  | grace n => simp only []; split <;> simp [UserRec.account, hs]
  | lapsed => simp only []; split <;> simp [UserRec.account, hs]
  | frozen => rfl
  | retiring => rfl

@[simp] theorem settledRecord_account (c : Settings) (old changed : UserRec) : (settledRecord c old changed).account = changed.account := by
  unfold settledRecord
  split
  · exact reevaluate_account _ _ _
  · exact reevaluate_account _ _ _

theorem mem_accounts {u : UserRec} (hu : u ∈ s.users) : u.account ∈ s.books.accounts := List.mem_map_of_mem hu

theorem findUser_mem {n : Nat} {u : UserRec} (hu : s.findUser n = some u) : u ∈ s.users := List.mem_of_find?_eq_some hu

theorem findActive_mem {n : Nat} {u : UserRec} (hu : s.findActive n = some u) : u ∈ s.users := findUser_mem (findActive_eq_some.1 hu).1

theorem mem_folios {c : CatEntry} (hc : c ∈ s.cat) : c.folio ∈ s.books.folios := List.mem_map_of_mem hc

theorem findEpoch_mem {e : Epoch} {c : CatEntry} (hc : s.findEpoch e = some c) : c ∈ s.cat := List.mem_of_find?_eq_some hc

theorem findEpoch_epoch {e : Epoch} {c : CatEntry} (hc : s.findEpoch e = some c) : c.epoch = e := by
  simpa using List.find?_some hc

/-- A user's record, and the entry of an epoch, are found where the books have them. -/
theorem findUser_isSome {n : Nat} (h : ∃ a ∈ s.books.accounts, a.user = n) : ∃ u, s.findUser n = some u := by
  obtain ⟨u, hu, he⟩ := exists_account.1 h
  exact Option.isSome_iff_exists.1 (List.find?_isSome.2 ⟨u, hu, by simp [he]⟩)

theorem findEpoch_isSome {e : Epoch} (h : ∃ c ∈ s.books.folios, c.epoch = e) : ∃ c, s.findEpoch e = some c := by
  obtain ⟨c, hc, he⟩ := exists_folio.1 h
  exact Option.isSome_iff_exists.1 (List.find?_isSome.2 ⟨c, hc, by simp [he]⟩)

/-- In an ascending table a replacement concerns the one record of its user (R1). -/
theorem putUser_eq_map {l : List UserRec} (h : (l.map UserRec.user).Nodup) (v : UserRec) :
    putUser v l = l.map fun r => if r.user = v.user then v else r := by
  have hm : putUser v l = modifyFirst (fun r => r.user == v.user) (fun _ => v) l := by
    induction l with
    | nil => rfl
    | cons r rs ih =>
      rw [List.map_cons] at h
      rw [putUser, modifyFirst, ih (List.nodup_cons.1 h).2]
  rw [hm, modifyFirst_eq_map (filter_key_length h v.user)]
  simp

/-- A record put in the table stands in the books in its user's place. -/
theorem putUser_books (h : (s.books.accounts.map Account.user).Nodup) (v : UserRec) :
    ({ s with users := putUser v s.users } : State).books = s.books.post v.account := by
  have hn : (s.users.map UserRec.user).Nodup := by simpa [State.books, Function.comp_def, UserRec.account] using h
  unfold State.books Books.post
  simp only [putUser_eq_map hn, List.map_map]
  congr 1
  refine List.map_congr_left fun r _ => ?_
  simp only [Function.comp_apply, Account.put]
  rw [apply_ite UserRec.account]
  rfl

/-- A replacement meets the one account of its user, or another that it leaves. -/
theorem put_cases (h : s.books.Lawful) {u : UserRec} (hu : u ∈ s.users) {v a : Account} (hv : v.user = u.user) (ha : a ∈ s.books.accounts) :
    a = u.account ∧ v.put a = v ∨ a.user ≠ u.user ∧ v.put a = a := by
  unfold Account.put
  by_cases he : a.user = u.user
  · exact .inl ⟨h.account_unique ha (mem_accounts hu) he, if_pos (he.trans hv.symm)⟩
  · exact .inr ⟨he, if_neg (hv ▸ he)⟩

/-- An account that stands in the books is put there in vain. -/
theorem post_of_mem (h : s.books.Lawful) {a : Account} (ha : a ∈ s.books.accounts) : s.books.post a = s.books := by
  suffices hm : s.books.accounts.map a.put = s.books.accounts by rw [Books.post, hm]
  refine (List.map_congr_left fun c hc => ?_).trans (List.map_id _)
  unfold Account.put
  split
  · rename_i he
    exact h.account_unique ha hc he.symm
  · rfl

/-- Nothing that the ledgers read of a record changes. -/
theorem putUser_books_same (h : s.books.Lawful) {u v : UserRec} (hu : u ∈ s.users) (hv : v.account = u.account) :
    ({ s with users := putUser v s.users } : State).books = s.books := by
  rw [putUser_books h.users_nodup, hv, post_of_mem h (mem_accounts hu)]

theorem commit_books (h : (s.books.accounts.map Account.user).Nodup) (old changed : UserRec) :
    (s.commit old changed).books = s.books.post changed.account := by
  rw [← settledRecord_account s.settings old changed]
  exact putUser_books h _

theorem commit_books_same (h : s.books.Lawful) {old changed u : UserRec} (hu : u ∈ s.users) (hv : changed.account = u.account) :
    (s.commit old changed).books = s.books := by
  rw [commit_books h.users_nodup, hv, post_of_mem h (mem_accounts hu)]

/-- A state that is a user's own choice: none but RETIRING asks that nothing is held or reserved (R34). -/
theorem putState_books_lawful (h : s.books.Lawful) {u v : UserRec} {x : UserState} (hu : u ∈ s.users)
    (hv : v.user = u.user ∧ v.held = u.held ∧ v.reserved = u.reserved) (hx : x = .retiring → u.held = 0 ∧ u.reserved = 0) :
    (s.putState v x).books.Lawful := by
  have hb : (s.putState v x).books = _ := putUser_books h.users_nodup { v with state := x }
  rw [hb]
  refine h.mapAccounts (fun a ha => ⟨Account.put_user _ _, ?_⟩) fun a ha => ?_
  · rcases put_cases h hu (v := UserRec.account { v with state := x }) hv.1 ha with ⟨rfl, hp⟩ | ⟨-, hp⟩
    · rw [hp]
      exact hv.2
    · rw [hp]
      exact ⟨rfl, rfl⟩
  · rcases put_cases h hu (v := UserRec.account { v with state := x }) hv.1 ha with ⟨rfl, hp⟩ | ⟨-, hp⟩
    · rw [hp]
      intro hr
      obtain ⟨hheld, hreserved⟩ := hx (of_decide_eq_true hr)
      exact ⟨hv.2.1.trans hheld, hv.2.2.trans hreserved⟩
    · rw [hp]
      exact h.accounts a ha

/-- Nothing that the ledgers read of a record changes, whichever record it is. -/
theorem modifyUsers_books (p : UserRec → Bool) {f : UserRec → UserRec} (hf : ∀ r, (f r).account = r.account) :
    ({ s with users := modifyFirst p f s.users } : State).books = s.books := by
  unfold State.books
  simp only [modifyFirst_map p f UserRec.account hf]

@[simp] theorem setDue_books (n : Nat) : (s.setDue n).books = s.books := modifyUsers_books _ fun _ => rfl

@[simp] theorem clearDue_books (n : Nat) : (s.clearDue n).books = s.books := modifyUsers_books _ fun _ => rfl

/-- A user who holds and reserves nothing leaves the table (R13, R34, R37). -/
theorem freeUser_books_lawful (h : s.books.Lawful) {n : Nat} (h0 : ∀ u ∈ s.users, u.user = n → u.held = 0 ∧ u.reserved = 0) :
    (s.freeUser n).books.Lawful := by
  have hn : (s.users.map UserRec.user).Nodup := by simpa [State.books, Function.comp_def, UserRec.account] using h.users_nodup
  have hb : (s.freeUser n).books = { s.books with accounts := s.books.accounts.filter fun a => !(a.user == n) } := by
    unfold State.books State.freeUser
    simp only [eraseP_eq_filter (filter_key_length hn n), List.filter_map]
    rfl
  rw [hb]
  refine h.eraseAccount (List.forall_mem_map.2 fun u hu hp => h0 u hu ?_)
  simpa [UserRec.account] using hp

/-! ### The catalogue -/

theorem modifyEpoch_books (h : (s.books.folios.map Folio.epoch).Nodup) (e : Epoch) {f : CatEntry → CatEntry} {g : Folio → Folio}
    (hf : ∀ c, (f c).folio = g c.folio) :
    (s.modifyEpoch e f).books = s.books.onEpoch e g := by
  have hn : (s.cat.map CatEntry.epoch).Nodup := by simpa [State.books, Function.comp_def, CatEntry.folio] using h
  unfold State.books State.modifyEpoch Books.onEpoch
  simp only [modifyFirst_eq_map (filter_key_length hn e), List.map_map]
  congr 1
  refine List.map_congr_left fun c _ => ?_
  simp only [Function.comp_apply, Folio.onEpoch, beq_iff_eq]
  rw [apply_ite CatEntry.folio, hf]
  rfl

/-- A change of an epoch's folio meets the one that is found, or another that it leaves. -/
theorem onEpoch_cases (h : s.books.Lawful) {e : Epoch} {c : CatEntry} (hc : s.findEpoch e = some c) (g : Folio → Folio) {d : Folio}
    (hd : d ∈ s.books.folios) : d = c.folio ∧ Folio.onEpoch e g d = g d ∨ d.epoch ≠ e ∧ Folio.onEpoch e g d = d := by
  unfold Folio.onEpoch
  by_cases he : d.epoch = e
  · exact .inl ⟨h.folio_unique hd (mem_folios (findEpoch_mem hc)) (he.trans (findEpoch_epoch hc).symm), if_pos he⟩
  · exact .inr ⟨he, if_neg he⟩

/-- Nothing that the ledgers read of an entry changes. -/
theorem modifyEpoch_books_same (e : Epoch) {f : CatEntry → CatEntry} (hf : ∀ c, (f c).folio = c.folio) :
    (s.modifyEpoch e f).books = s.books := by
  unfold State.books State.modifyEpoch
  simp only [modifyFirst_map _ _ CatEntry.folio hf]

/-- The entry of an epoch takes another state than ASKED: it was not EXPIRING, or becomes so without pins (R105, R108, R111, R124). -/
theorem onEpoch_state_lawful (h : s.books.Lawful) {e : Epoch} {c : CatEntry} {x : CatState} (hc : s.findEpoch e = some c) (hx : x ≠ .asked)
    (hs : c.state ≠ .expiring) (hp : x = .expiring → c.pins = 0) : (s.books.onEpoch e fun d => { d with state := x }).Lawful := by
  refine h.mapFolios fun d hd => ?_
  rcases onEpoch_cases h hc (fun d => { d with state := x }) hd with ⟨rfl, hp'⟩ | ⟨-, hp'⟩ <;> rw [hp']
  · exact ⟨x, rfl, fun ha => absurd ha hx, fun he => absurd he hs, hp⟩
  · exact ⟨d.state, rfl, id, id, fun he => (h.folios d hd).2 (.inr he)⟩

theorem setEntryState_lawful (h : s.books.Lawful) {e : Epoch} {c : CatEntry} {f : CatEntry → CatEntry} {x : CatState}
    (hc : s.findEpoch e = some c) (hf : ∀ d : CatEntry, (f d).folio = { d.folio with state := x }) (hx : x ≠ .asked)
    (hs : c.state ≠ .expiring) (hp : x = .expiring → c.pins = 0) : (s.modifyEpoch e f).books.Lawful :=
  (onEpoch_state_lawful h hc hx hs hp).of_eq (modifyEpoch_books h.catalogue.nodup e hf)

/-! ### The job slots -/

/-- The job of a slot is written (R133). -/
theorem setJob_books (i : Fin 8) (x : JobSlot) : (s.setJob i x).books = { s.books with claims := s.books.claims.set i x.claim } := by
  unfold State.books
  simp [List.map_set]

theorem jobSlot_claim (i : Fin 8) (hi : i.val < s.jobs.length) : (s.jobSlot i).claim = s.books.claims[i.val]'(by simpa [State.books] using hi) := by
  simp [State.jobSlot, State.books, hi]

/-- Nothing that the ledgers read of a job changes. -/
theorem setJob_books_same {i : Fin 8} {j k : Job} (gen : Fin 8) (hj : (s.jobSlot i).job = some j) (hk : k.claim = j.claim) :
    (s.setJob i { gen := gen, job := some k }).books = s.books := by
  have hx : JobSlot.claim { gen := gen, job := some k } = (s.jobSlot i).claim := by simp [JobSlot.claim, hj, hk]
  rw [setJob_books, hx]
  by_cases hi : i.val < s.jobs.length
  · rw [jobSlot_claim i hi, List.set_getElem_self]
  · rw [List.set_eq_of_length_le (by simpa [State.books] using hi)]

/-! ### The outbound queue -/

@[simp] theorem depart_books (q : QNotice) (e : NoticeEnd) : (s.depart q e).books = s.books := by
  unfold State.depart
  cases q.notice with
  | usage user x =>
    simp only []
    split
    · cases e with
      | displaced => exact setDue_books (s := { s with digest := _ }) user
      | _ => rfl
    · cases e with
      | dropped => simp only []; split <;> rfl
      | _ => rfl
  | _ => rfl

theorem placeFinal_books {n : Nat} {t : State} (ht : s.placeFinal n = some t) : t.books = s.books := by
  unfold State.placeFinal at ht
  split at ht
  · cases ht
    rfl
  · split at ht
    · cases ht
      rfl
    · split at ht
      · cases ht
      · cases ht
        exact depart_books _ _

theorem placeOneWaiting_books (n : Nat) : (s.placeOneWaiting n).books = s.books := by
  unfold State.placeOneWaiting
  split
  · rfl
  · rename_i t ht
    exact (clearDue_books n).trans (placeFinal_books ht)

@[simp] theorem placeWaiting_books : s.placeWaiting.books = s.books :=
  foldl_keeps (fun v : State => v.books = s.books) _ _ (fun _ n hv => (placeOneWaiting_books n).trans hv) s rfl

theorem placeNow_books {n : Nat} {t : State} (ht : s.placeNow n = some t) : t.books = s.books := by
  obtain ⟨u, hu, rfl | rfl⟩ := placeNow_eq ht
  · exact placeFinal_books hu
  · rw [placeWaiting_books, placeFinal_books hu]

@[simp] theorem endTransmission_books (e : NoticeEnd) : (s.endTransmission e).books = s.books := by
  unfold State.endTransmission
  split
  · rfl
  · split <;> rw [placeWaiting_books, depart_books] <;> rfl

@[simp] theorem abandonAttempt_books : s.abandonAttempt.books = s.books := by
  unfold State.abandonAttempt
  split
  · exact endTransmission_books _
  · rfl

theorem failAttempt_books : s.failAttempt.books = s.books := by
  unfold State.failAttempt
  split
  · rfl
  · split
    · exact endTransmission_books _
    · exact placeWaiting_books

@[simp] theorem offerEpoch_books (n : Notice) : (s.offerEpoch n).books = s.books := by
  unfold State.offerEpoch
  split
  · rfl
  · split
    · rfl
    · split
      · rfl
      · rw [depart_books, placeWaiting_books]
        rfl

@[simp] theorem withdraw_books (p : Notice → Bool) : (s.withdraw p).books = s.books := by
  unfold State.withdraw
  split
  · rfl
  · rw [placeWaiting_books, depart_books]
    rfl

/-! ### The follow-on steps -/

/-- A READY entry that passes the close test becomes CLOSED (R108). -/
theorem closeTest_closes {e : Epoch} {c : CatEntry} (hc : s.findEpoch e = some c) (hr : closes c = true) :
    s.closeTest e =
      (s.modifyEpoch e fun c => { c with state := .closed, timer := none }).raise .epochClosed (.epoch e) (some (.closedWhole true)) := by
  unfold State.closeTest
  rw [hc]
  simp only [hr, if_true]
  unfold State.modifyEpoch
  rw [modifyFirst_congr hc (g := fun c => { c with state := .closed, timer := none }) (by simp [closedEntry, hr])]

/-- An entry that does not pass it stays as it is (R108). -/
theorem closeTest_stays {e : Epoch} {c : CatEntry} (hc : s.findEpoch e = some c) (hr : closes c = false) : s.closeTest e = s := by
  unfold State.closeTest
  simp [hc, hr]

theorem closes_ready {c : CatEntry} (h : closes c = true) : c.state = .ready := by
  simp only [closes, Bool.and_eq_true, decide_eq_true_eq] at h
  exact h.1

theorem closeTest_books_lawful (e : Epoch) (h : s.books.Lawful) : (s.closeTest e).books.Lawful := by
  cases hc : s.findEpoch e with
  | none =>
    unfold State.closeTest
    rw [hc]
    exact h
  | some c =>
    cases hr : closes c with
    | false =>
      rw [closeTest_stays hc hr]
      exact h
    | true =>
      rw [closeTest_closes hc hr]
      exact setEntryState_lawful (x := .closed) h hc (fun _ => rfl) (by simp) (by simp [closes_ready hr]) (by simp)

/-- Of the entries at most one is ASKED, and it leaves (R95, R100). -/
theorem eraseAsked_books (h : s.books.Lawful) :
    ({ s with cat := s.cat.eraseP fun c => decide (c.state = .asked) } : State).books =
      { s.books with folios := s.books.folios.filter fun c => !decide (c.state = .asked) } := by
  have hone : (s.cat.filter fun c => decide (c.state = .asked)).length ≤ 1 := (catalogueLaw_iff.1 h.catalogue).2.2.1
  unfold State.books
  simp only [eraseP_eq_filter hone, List.filter_map]
  rfl

theorem abandonAsked_books (b : Bool) (h : s.books.Lawful) :
    (s.abandonAsked b).books = { s.books with folios := s.books.folios.filter fun c => !decide (c.state = .asked) } := by
  unfold State.abandonAsked
  split
  · rename_i hn
    unfold State.books
    simp only []
    rw [List.filter_eq_self.2]
    simpa [State.askedEntry, CatEntry.folio] using hn
  · simp only []
    split
    · rw [withdraw_books]
      exact eraseAsked_books h
    · exact eraseAsked_books h

/-- The abandoned entry had no hold and no pin (R119, R135). -/
theorem abandonAsked_books_lawful (b : Bool) (h : s.books.Lawful) : (s.abandonAsked b).books.Lawful := by
  rw [abandonAsked_books b h]
  refine h.eraseFolios _ (fun c hc hp => ?_) fun e k w hx => ?_
  · have ha : c.state = .asked := by simpa using hp
    exact ⟨(h.folios c hc).1 ha, (h.folios c hc).2 (.inl ha)⟩
  · obtain ⟨c, hc, he, hs⟩ := h.sweep e k w hx
    exact ⟨c, List.mem_filter.2 ⟨hc, by simp [hs]⟩, he, hs⟩

theorem dropRequired_books_lawful (st : Station) (e : Epoch) (h : s.books.Lawful) : (s.dropRequired st e).books.Lawful := by
  unfold State.dropRequired
  split
  · exact h
  · split
    · exact closeTest_books_lawful e (h.of_eq (modifyEpoch_books_same e fun _ => rfl))
    · exact h

/-- A RETIRING record holds and reserves nothing when it is freed (R34, R37). -/
theorem freeRetired_books_lawful (n : Nat) (h : s.books.Lawful) : (s.freeRetired n).books.Lawful := by
  unfold State.freeRetired
  split
  · simp only []
    split
    · rename_i hr
      refine freeUser_books_lawful (s := { s with freeOwed := _ }) h fun u hu he => ?_
      have hr : s.isRetiring n = true := hr
      unfold State.isRetiring at hr
      split at hr
      · cases hr
      · rename_i v hv
        have hv' := h.accounts _ (mem_accounts (findUser_mem hv)) hr
        have huv := h.account_unique (mem_accounts hu) (mem_accounts (findUser_mem hv)) (he.trans (findUser_user hv).symm)
        rw [← huv] at hv'
        exact hv'
    · exact h
  · exact h

@[simp] theorem dueAfterLoss_books (n : Nat) : (s.dueAfterLoss n).books = s.books := by
  unfold State.dueAfterLoss
  split
  · simp only []
    split
    · rfl
    · exact setDue_books (s := { s with dueOwed := _ }) n
  · rfl

theorem takeStretched_books : s.takeStretched.books = s.books := by
  unfold State.takeStretched
  split
  · split <;> rfl
  all_goals rfl

theorem agePeer_books_lawful (st : Station) (h : s.books.Lawful) : (s.agePeer st).books.Lawful := by
  unfold State.agePeer
  split
  · exact foldl_keeps (fun v : State => v.books.Lawful) _ _ (fun _ e hv => dropRequired_books_lawful st e hv) _ h
  · exact h

theorem expireAsk_books_lawful (h : s.books.Lawful) : s.expireAsk.books.Lawful := by
  unfold State.expireAsk
  split
  · exact h
  · split
    · exact abandonAsked_books_lawful _ h
    · exact h

/-- A READY entry becomes PARTIAL (R111). -/
theorem expireClose_books_lawful (e : Epoch) (h : s.books.Lawful) : (s.expireClose e).books.Lawful := by
  unfold State.expireClose
  split
  · exact h
  · rename_i c hc
    split
    · rename_i hr
      exact setEntryState_lawful (x := .closedPartial) h hc (fun _ => rfl) (by simp) (by simp [hr.1]) (by simp)
    · exact h

theorem offerRelease_books (i : Fin 8) : (s.offerRelease i).books = s.books := by
  unfold State.offerRelease
  split
  · rfl
  · rename_i j hj
    split
    · exact setJob_books_same (s.jobSlot i).gen hj rfl
    · rfl

theorem expireWindow_books : s.expireWindow.books = s.books := by
  unfold State.expireWindow
  split <;> rfl

/-- What earlier events left owed keeps the law (log 6). -/
theorem settle_books_lawful (h : s.books.Lawful) : s.settle.books.Lawful :=
  settle_keeps (fun v => v.books.Lawful) (fun _ n => freeRetired_books_lawful n) (fun _ n hv => hv.of_eq (dueAfterLoss_books n))
    (fun _ hv => hv.of_eq takeStretched_books) (fun _ st => agePeer_books_lawful st) (fun _ => expireAsk_books_lawful)
    (fun _ e => expireClose_books_lawful e) (fun _ i hv => hv.of_eq (offerRelease_books i)) (fun _ hv => hv.of_eq expireWindow_books) s h

end Sys2Proof.Machine
end

section
/-! PROOFS. The requests of chapter 2, HOLD and the expiry sweep, and the restores keep the law of the books (R25 to R41, R119 to R129, R134 to
R146). -/

namespace Sys2Proof.Machine

variable {s : State}

/-! ### The requests of chapter 2 -/

/-- An access after the checks of R25: only the work on a record that was found can change anything. -/
theorem withUser_keeps {n : Nat} {refused : UserBlock → ReplyBody} {act : UserRec → State → Answer} (h : s.books.Lawful)
    (hAct : ∀ u, s.findActive n = some u → (act u s).1.books.Lawful) : (s.withUser n refused act).1.books.Lawful := by
  unfold State.withUser
  split
  · exact h
  · split
    · exact h
    · rename_i u hu
      exact hAct u hu

/-- A change of a record that is found, in nothing that the ledgers read. -/
theorem commit_books_lawful (h : s.books.Lawful) {old changed u : UserRec} (hu : u ∈ s.users) (hv : changed.account = u.account) :
    (s.commit old changed).books.Lawful :=
  h.of_eq (commit_books_same h hu hv)

theorem chargeAccess_books_lawful (n k : Nat) (h : s.books.Lawful) : (chargeAccess n k s).1.books.Lawful := by
  unfold chargeAccess
  split
  · exact h
  · refine withUser_keeps h fun u hu => ?_
    simp only []
    split
    · exact commit_books_lawful h (findActive_mem hu) rfl
    · exact h

theorem creditAccess_books_lawful (n k : Nat) (h : s.books.Lawful) : (creditAccess n k s).1.books.Lawful := by
  unfold creditAccess
  split
  · exact h
  · split
    · exact h
    · exact withUser_keeps h fun u hu => commit_books_lawful h (findActive_mem hu) rfl

/-- A record is created with nothing held or reserved, for a user who has none (R29, R30). -/
theorem userLoadAccess_books_lawful (n soft hard live : Nat) (h : s.books.Lawful) : (userLoadAccess n soft hard live s).1.books.Lawful := by
  unfold userLoadAccess
  split
  · exact h
  · split
    · exact h
    · split
      · split <;> exact h
      · rename_i hnone
        split
        · exact h
        · have hn : ∀ r ∈ s.users, r.user ≠ n := by simpa [State.findUser] using hnone
          have hsorted : (s.users.map UserRec.user).Pairwise (· < ·) := (ledgersLawful_iff.2 h).1
          have hv : (newUser s.settings.heldWeight s.settings.grace n soft hard live).account =
              { user := n, held := 0, reserved := 0, retiring := false } := reevaluate_account _ _ _
          have hvu := congrArg Account.user hv
          refine h.insertAccount (v := { user := n, held := 0, reserved := 0, retiring := false }) (fun a => ?_) ?_
            (List.forall_mem_map.2 hn) ⟨rfl, rfl⟩
          · simp only [List.mem_map, mem_insertUser, State.books]
            constructor
            · rintro ⟨r, rfl | hr, rfl⟩
              · exact .inl hv
              · exact .inr ⟨r, hr, rfl⟩
            · rintro (rfl | ⟨r, hr, rfl⟩)
              · exact ⟨_, .inl rfl, hv⟩
              · exact ⟨r, .inr hr, rfl⟩
          · rw [List.map_map]
            exact insertUser_sorted hsorted fun r hr he => hn r hr (he.trans hvu)

theorem userLimitsAccess_books_lawful (n soft hard : Nat) (h : s.books.Lawful) : (userLimitsAccess n soft hard s).1.books.Lawful := by
  unfold userLimitsAccess
  split
  · exact h
  · split
    · exact h
    · exact withUser_keeps h fun u hu => commit_books_lawful h (findActive_mem hu) rfl

theorem userFreezeAccess_books_lawful (n : Nat) (h : s.books.Lawful) : (userFreezeAccess n s).1.books.Lawful :=
  withUser_keeps h fun _ hu => putState_books_lawful h (findActive_mem hu) ⟨rfl, rfl, rfl⟩ (by simp)

theorem userThawAccess_books_lawful (n : Nat) (h : s.books.Lawful) : (userThawAccess n s).1.books.Lawful := by
  refine withUser_keeps h fun u hu => ?_
  simp only []
  split
  · refine putState_books_lawful h (findActive_mem hu) ⟨rfl, rfl, rfl⟩ ?_
    split <;> simp
  · exact h

/-- A user who holds and reserves nothing becomes RETIRING (R34). -/
theorem beginRetiring_books_lawful {u : UserRec} (h : s.books.Lawful) (hu : u ∈ s.users) (h0 : u.held = 0 ∧ u.reserved = 0) :
    (s.beginRetiring u).books.Lawful := by
  have ht : (s.putState { u with reported := 0, reportDue := false } .retiring).books.Lawful :=
    putState_books_lawful h hu ⟨rfl, rfl, rfl⟩ fun _ => h0
  unfold State.beginRetiring
  simp only []
  split
  · rename_i placed hp
    exact ht.of_eq (placeNow_books hp)
  · exact ht.of_eq (setDue_books u.user)

theorem retireNow_books_lawful (owed : Bool) {n : Nat} {u : UserRec} (h : s.books.Lawful) (hu : s.findUser n = some u)
    (h0 : u.held = 0 ∧ u.reserved = 0) : (s.retireNow owed n).books.Lawful := by
  have hfree : ∀ t : State, t.books = s.books → (t.freeUser n).books.Lawful := by
    intro t ht
    refine freeUser_books_lawful (h.of_eq ht) fun v hv he => ?_
    have hvu : v.account = u.account :=
      h.account_unique (ht ▸ mem_accounts hv) (mem_accounts (findUser_mem hu)) (he.trans (findUser_user hu).symm)
    exact ⟨(congrArg Account.held hvu).trans h0.1, (congrArg Account.reserved hvu).trans h0.2⟩
  unfold State.retireNow
  split
  · cases hp : s.placeNow n with
    | none => exact hfree s rfl
    | some t => exact hfree t (placeNow_books hp)
  · exact hfree s rfl

theorem userRetireAccess_books_lawful (n : Nat) (h : s.books.Lawful) : (userRetireAccess n s).1.books.Lawful := by
  refine withUser_keeps h fun u hu => ?_
  simp only []
  split
  · exact h
  · rename_i hn
    have h0 : u.held = 0 ∧ u.reserved = 0 := by omega
    split
    · exact beginRetiring_books_lawful h (findActive_mem hu) h0
    · exact retireNow_books_lawful _ h (findActive_eq_some.1 hu).1 h0

theorem userResyncAccess_books_lawful (n : Nat) (h : s.books.Lawful) : (userResyncAccess n s).1.books.Lawful :=
  withUser_keeps h fun u hu =>
    Books.Lawful.of_eq (commit_books_lawful h (old := u) (changed := { u with spill := 0 }) (findActive_mem hu) rfl) (setDue_books n)

theorem userWatchAccess_books_lawful (n : Nat) (h : s.books.Lawful) : (userWatchAccess n s).1.books.Lawful := by
  refine withUser_keeps h fun u hu => ?_
  split
  · exact h
  · split <;> exact h

/-! ### Holds (R120, R127) -/

/-- The hold records before and after an admitted HOLD: the user's record in the epoch grows, or one is appended (R120). -/
theorem addHold_split (user : Nat) (e : Epoch) (n : Nat) (l : List Hold) :
    ∃ (a b : List Hold) (x : Option Hold) (y : Hold), l = a ++ x.toList ++ b ∧ addHold user e n l = a ++ (some y).toList ++ b ∧
      (∀ z ∈ x, z.user = user ∧ z.epoch = e) ∧ y.user = user ∧ y.epoch = e ∧ y.units = amount x + n ∧ x.isSome = l.any (isHold user e) ∧
      (x = none → ∀ z ∈ l, ¬(z.user = user ∧ z.epoch = e)) := by
  unfold addHold
  by_cases hany : l.any (isHold user e) = true
  · obtain ⟨a, x, b, hl, hx, -, hm⟩ := modifyFirst_split (isHold user e) (fun h => { h with units := h.units + n }) hany
    have hx' : x.user = user ∧ x.epoch = e := by simpa [isHold] using hx
    refine ⟨a, b, some x, { x with units := x.units + n }, by simpa using hl, by simpa [hany] using hm, ?_, hx'.1, hx'.2, rfl, by simp [hany],
      by simp⟩
    rintro z ⟨⟩
    exact hx'
  · refine ⟨l, [], none, { user := user, epoch := e, units := n }, by simp, by simp [hany], by simp, rfl, rfl, by simp [amount],
      by simpa using hany, fun _ z hz hh => hany ?_⟩
    exact List.any_eq_true.2 ⟨z, hz, by simpa [isHold] using hh⟩

/-- A hold record of a user and an epoch that are there enters, grows or leaves, and both their figures follow. -/
theorem exchangeHold_lawful (h : s.books.Lawful) {u : UserRec} {e : Epoch} {c : CatEntry} {l r : List Hold} {x y : Option Hold} {v : Account}
    {g : Folio → Folio} (hu : u ∈ s.users) (hc : s.findEpoch e = some c) (hl : s.holds = l ++ x.toList ++ r)
    (hx : ∀ z ∈ x, z.user = u.user ∧ z.epoch = e) (hy : ∀ z ∈ y, z.user = u.user ∧ z.epoch = e ∧ 0 < z.units)
    (fresh : x = none → ∀ z ∈ s.holds, ¬(z.user = u.user ∧ z.epoch = e)) (hv : v.user = u.user ∧ v.reserved = u.reserved ∧ v.Proper)
    (hheld : v.held + amount x = u.held + amount y)
    (hg : (g c.folio).epoch = e ∧ (g c.folio).state = c.state ∧ (g c.folio).pins = c.pins ∧ (g c.folio).Proper)
    (hcount : (g c.folio).holdCount + x.toList.length = c.holdCount + y.toList.length)
    (htotal : (g c.folio).heldTotal + amount x = c.heldTotal + amount y) :
    ((({ s.books with holds := l ++ y.toList ++ r } : Books).onEpoch e g).post v).Lawful := by
  have hce := findEpoch_epoch hc
  refine h.exchangeHold (n := u.user) (e := e) hl hx hy fresh (fun _ => ⟨_, mem_accounts hu, rfl⟩)
    (fun _ => ⟨_, mem_folios (findEpoch_mem hc), hce⟩) (fun a ha => ?_) (fun a ha => ?_) (fun d hd => ?_) (fun d hd => ?_) fun d hd => ?_
  · rcases put_cases h hu hv.1 ha with ⟨rfl, hp⟩ | ⟨-, hp⟩ <;> rw [hp]
    · exact hv
    · exact ⟨rfl, rfl, h.accounts a ha⟩
  · rcases put_cases h hu hv.1 ha with ⟨rfl, hp⟩ | ⟨hne, hp⟩ <;> rw [hp]
    · simpa [UserRec.account] using hheld
    · simp [hne]
  · rcases onEpoch_cases h hc g hd with ⟨rfl, hp⟩ | ⟨-, hp⟩ <;> rw [hp]
    · exact ⟨hg.1.trans hce.symm, hg.2⟩
    · exact ⟨rfl, rfl, rfl, h.folios d hd⟩
  · rcases onEpoch_cases h hc g hd with ⟨rfl, hp⟩ | ⟨hne, hp⟩ <;> rw [hp]
    · simpa [CatEntry.folio, hce] using hcount
    · simp [hne]
  · rcases onEpoch_cases h hc g hd with ⟨rfl, hp⟩ | ⟨hne, hp⟩ <;> rw [hp]
    · simpa [CatEntry.folio, hce] using htotal
    · simp [hne]

/-- An admitted HOLD (R120). -/
theorem applyHold_books_lawful (h : s.books.Lawful) {u : UserRec} {e : Epoch} {c : CatEntry} {n : Nat} (hu : u ∈ s.users)
    (hr : u.state ≠ .retiring) (hc : s.findEpoch e = some c) (ha : c.state ≠ .asked) (hn : n ≠ 0) : (s.applyHold u e n).books.Lawful := by
  obtain ⟨a, b, x, y, hl, hadd, hx, hyu, hye, hyn, hsome, hfresh⟩ := addHold_split u.user e n s.holds
  have hbooks : (s.applyHold u e n).books =
      (({ s.books with holds := a ++ (some y).toList ++ b } : Books).onEpoch e fun c =>
        { c with heldTotal := c.heldTotal + n, holdCount := c.holdCount + (!x.isSome).toNat }).post { u.account with held := u.held + n } := by
    rw [hsome, ← hadd]
    exact (commit_books (by exact h.users_nodup) _ _).trans (congrArg _ (modifyEpoch_books (by exact h.catalogue.nodup) e fun _ => rfl))
  have hcp := (h.folios _ (mem_folios (findEpoch_mem hc))).2
  have hyn' : amount (some y) = amount x + n := hyn
  rw [hbooks]
  refine exchangeHold_lawful h hu hc hl hx ?_ hfresh ⟨rfl, rfl, fun hret => absurd (of_decide_eq_true hret) hr⟩ ?_
    ⟨findEpoch_epoch hc, rfl, rfl, fun hs => absurd hs ha, hcp⟩ ?_ ?_
  · rintro z ⟨⟩
    exact ⟨hyu, hye, by omega⟩
  · simp only []
    omega
  · cases x <;> simp [CatEntry.folio]
  · simp only [CatEntry.folio]
    omega

theorem holdAccess_books_lawful (n : Nat) (e : Epoch) (k : Nat) (h : s.books.Lawful) : (holdAccess n e k s).1.books.Lawful := by
  unfold holdAccess
  split
  · exact h
  · rename_i hk
    split
    · exact h
    · refine withUser_keeps h fun u hu => ?_
      simp only []
      split
      · exact h
      · rename_i c hc
        split
        · exact h
        · rename_i ha
          iterate 4 (split; · exact h)
          exact applyHold_books_lawful h (findActive_mem hu) (findActive_eq_some.1 hu).2 hc ha fun h0 => hk (.inr h0)

/-- The removal of a hold record takes that record alone: no other is of its user and epoch (R120). -/
theorem eraseHold_split {l : List Hold} {x : Hold} (hn : (l.map fun h => (h.user, h.epoch)).Nodup) (hx : x ∈ l) :
    ∃ a b, l = a ++ (some x).toList ++ b ∧ (l.eraseP fun g => isHold x.user x.epoch g) = a ++ (none : Option Hold).toList ++ b := by
  obtain ⟨z, a, b, -, hz, hl, he⟩ := List.exists_of_eraseP (p := fun g => isHold x.user x.epoch g) hx (by simp [isHold])
  have hzx : z = x := by
    have hk : z.user = x.user ∧ z.epoch = x.epoch := by simpa [isHold] using hz
    exact List.inj_on_of_nodup_map hn (by simp [hl]) hx (by simp [hk])
  subst hzx
  exact ⟨a, b, by simpa using hl, by simpa using he⟩

/-- What an expiry sweep step writes in the books (R127). -/
theorem releaseHold_books (h : s.books.Lawful) {x : Hold} {u : UserRec} (hu : s.findUser x.user = some u) :
    (s.releaseHold x).books =
      (({ s.books with holds := s.holds.eraseP fun g => isHold x.user x.epoch g } : Books).onEpoch x.epoch fun c =>
        { c with heldTotal := c.heldTotal - x.units, holdCount := c.holdCount - 1 }).post { u.account with held := u.held - x.units } := by
  have hfound : ∀ v, s.findUser x.user = v → v = some u := fun v hv => hv.symm.trans hu
  unfold State.releaseHold
  simp only []
  split
  · rename_i hn
    cases hfound none hn
  · rename_i v hv
    cases hfound (some v) hv
    exact (commit_books (by exact h.users_nodup) _ _).trans (congrArg _ (modifyEpoch_books (by exact h.catalogue.nodup) _ fun _ => rfl))

/-- The user of a hold record is there (R118). -/
theorem hold_findUser (h : s.books.Lawful) {x : Hold} (hx : x ∈ s.holds) : ∃ u, s.findUser x.user = some u :=
  findUser_isSome (h.holds.owner x hx (h.units x hx))

/-- A hold record leaves, and its user and epoch hold the less (R127). -/
theorem releaseHold_books_lawful (h : s.books.Lawful) {x : Hold} (hx : x ∈ s.holds) : (s.releaseHold x).books.Lawful := by
  obtain ⟨u, hu⟩ := hold_findUser h hx
  obtain ⟨c, hc⟩ := findEpoch_isSome (h.holds.entry x hx)
  obtain ⟨a, b, hl, he⟩ := eraseHold_split (l := s.holds) h.keys hx
  have hxu := findUser_user hu
  have hxe := findEpoch_epoch hc
  have hua := mem_accounts (findUser_mem hu)
  have hcf := mem_folios (findEpoch_mem hc)
  have hheld : x.units ≤ u.held := h.holds.units_le hx hua hxu.symm
  have hcount : 0 < c.holdCount := h.holds.count_pos hx hcf hxe.symm
  have htotal : x.units ≤ c.heldTotal := by
    have ht : c.heldTotal = _ := h.totals _ hcf
    rw [ht]
    exact units_le_holdSum hx (by simp [CatEntry.folio, hxe])
  have hcp := h.folios _ hcf
  rw [releaseHold_books h hu, he]
  refine exchangeHold_lawful h (findUser_mem hu) hc hl ?_ (by simp) (by simp) ⟨rfl, rfl, fun hr => ?_⟩ ?_ ⟨hxe, rfl, rfl, fun hs => ?_, hcp.2⟩
    ?_ ?_
  · rintro z ⟨⟩
    exact ⟨hxu.symm, rfl⟩
  · obtain ⟨h0, h1⟩ : u.held = 0 ∧ u.reserved = 0 := h.accounts _ hua hr
    exact ⟨show u.held - x.units = 0 by omega, h1⟩
  · simp only [amount, Option.map_some, Option.getD_some, Option.map_none, Option.getD_none]
    omega
  · have h0 : c.holdCount = 0 := hcp.1 hs
    omega
  · simp only [CatEntry.folio, Option.toList_some, Option.toList_none, List.length_singleton, List.length_nil]
    omega
  · simp only [CatEntry.folio, amount, Option.map_some, Option.getD_some, Option.map_none, Option.getD_none]
    omega

/-! ### The expiry sweep (R124, R127, R129) -/

/-- An epoch whose entry is EXPIRING. -/
def Books.Expires (e : Epoch) (b : Books) : Prop := ∃ c ∈ b.folios, c.epoch = e ∧ c.state = .expiring

/-- A change that keeps every folio's epoch and state keeps an EXPIRING entry. -/
theorem Books.Expires.onEpoch {b : Books} {e e' : Epoch} {g : Folio → Folio} (h : b.Expires e)
    (hg : ∀ c, (g c).epoch = c.epoch ∧ (g c).state = c.state) : (b.onEpoch e' g).Expires e := by
  obtain ⟨c, hc, he, hs⟩ := h
  refine ⟨_, List.mem_map_of_mem hc, ?_⟩
  unfold Folio.onEpoch
  split
  · exact ⟨(hg c).1.trans he, (hg c).2.trans hs⟩
  · exact ⟨he, hs⟩

/-- The end of an expiry sweep: its EXPIRING entry, which has no hold left, leaves (R129). -/
theorem completeExpiry_books_lawful {e : Epoch} (swept : Nat) (h : s.books.Lawful) (hx : s.books.Expires e) (hl : s.holdList e = []) :
    (s.completeExpiry e swept).books.Lawful := by
  have hn : (s.cat.map CatEntry.epoch).Nodup := by simpa [State.books, Function.comp_def, CatEntry.folio] using h.catalogue.nodup
  have hbooks : (s.completeExpiry e swept).books =
      { s.books with folios := s.books.folios.filter fun c => !(c.epoch == e), sweep := .idle } := by
    unfold State.completeExpiry State.books
    simp only [raise_users, raise_cat, raise_latest, raise_holds, raise_jobs, eraseP_eq_filter (filter_key_length hn e), List.filter_map]
    rfl
  rw [hbooks]
  refine h.eraseFolios _ (fun d hd hp => ?_) (sweepLaw_of_not_expiry (by simp))
  have hde : d.epoch = e := by simpa using hp
  obtain ⟨c, hc, hce, hcs⟩ := hx
  have hdc := h.folio_unique hd hc (hde.trans hce.symm)
  refine ⟨?_, (h.folios d hd).2 (.inr (hdc ▸ hcs))⟩
  rw [h.holds.counts d hd, hde]
  exact List.length_eq_zero_iff.2 hl

/-- At the start of an expiry sweep and after each step (R124, R126, R129). -/
theorem continueExpiry_books_lawful {e : Epoch} (swept : Nat) (h : s.books.Lawful) (hx : s.books.Expires e) :
    (s.continueExpiry e swept).books.Lawful := by
  unfold State.continueExpiry
  split
  · rename_i hl
    exact completeExpiry_books_lawful swept h hx (List.isEmpty_iff.1 hl)
  · refine h.withSweep (x := .expiry e swept true) fun e' k w hw => ?_
    cases hw
    exact hx

@[simp] theorem purge_books (e : Epoch) : (s.purge e).books = s.books := modifyEpoch_books_same (s := { s with dup := _ }) e fun _ => rfl

theorem expireStatus_ok {c : CatEntry} {discard : Bool} (h : s.expireStatus c discard = .ok) : c.state ≠ .expiring ∧ c.pins = 0 := by
  unfold State.expireStatus at h
  split at h
  · cases h
  · rename_i he
    split at h
    · cases h
    · split at h
      · cases h
      · rename_i hp
        exact ⟨he, Nat.eq_zero_of_not_pos hp⟩

/-- An entry that is not pinned begins to expire (R122, R124). -/
theorem snapExpire_books_lawful (e : Epoch) (discard : Bool) (h : s.books.Lawful) : (snapExpire e discard s).1.books.Lawful := by
  unfold snapExpire
  split
  · exact h
  · rename_i c hc
    split
    · rename_i hok
      obtain ⟨he, hp⟩ := expireStatus_ok hok
      have hb : (if discard then s.purge e else s).books = s.books := by
        split
        · exact purge_books e
        · rfl
      have hbooks := modifyEpoch_books (hb.symm ▸ h.catalogue.nodup) e (f := fun c => { c with state := .expiring })
        (g := fun d => { d with state := .expiring }) fun _ => rfl
      rw [hb] at hbooks
      refine continueExpiry_books_lawful 0 ((onEpoch_state_lawful h hc (by simp) he fun _ => hp).of_eq hbooks) ?_
      rw [hbooks]
      exact ⟨_, List.mem_map_of_mem (mem_folios (findEpoch_mem hc)), by simp [Folio.onEpoch, CatEntry.folio, findEpoch_epoch hc]⟩
    · exact h

theorem serveExpiryStep_books_lawful (h : s.books.Lawful) : s.serveExpiryStep.books.Lawful := by
  have ht := settle_books_lawful h
  unfold State.serveExpiryStep
  generalize s.settle = t at ht
  simp only []
  split
  · rename_i e swept hsweep
    have hx : t.books.Expires e := ht.sweep e swept true hsweep
    split
    · unfold State.expiryStep
      split
      · rename_i hl
        exact completeExpiry_books_lawful swept ht hx hl
      · rename_i x _ hl
        have hm : x ∈ t.holds := (List.mem_filter.1 (hl ▸ List.mem_cons_self : x ∈ t.holdList e)).1
        obtain ⟨u, hu⟩ := hold_findUser ht hm
        refine continueExpiry_books_lawful _ (releaseHold_books_lawful ht hm) ?_
        rw [releaseHold_books ht hu]
        exact Books.Expires.onEpoch (b := { t.books with holds := _ }) hx fun _ => ⟨rfl, rfl⟩
    · exact h
  all_goals exact h

end Sys2Proof.Machine
end

section
/-! PROOFS. The restores, the snapshots and the Peer View keep the law of the books (R69 to R91, R93 to R114, R134 to R146). -/

namespace Sys2Proof.Machine

variable {s : State}

/-! ### Restores (R136 to R140) -/

/-- What a job slot of a user and an epoch reserves changes, and the books of both follow. -/
theorem exchangeClaim_lawful (h : s.books.Lawful) {i : Fin 8} {n : Nat} {e : Epoch} {y : Option Hold} {f : Account → Account} {g : Folio → Folio}
    (hx : ∀ z ∈ (s.jobSlot i).claim, z.user = n ∧ z.epoch = e) (hy : ∀ z ∈ y, z.user = n ∧ z.epoch = e)
    (owner : 0 < amount y → ∃ a ∈ s.books.accounts, a.user = n) (entry : y.isSome = true → ∃ c ∈ s.books.folios, c.epoch = e)
    (hf : ∀ a ∈ s.books.accounts, (f a).user = a.user ∧ (f a).held = a.held ∧ (f a).Proper)
    (hreserved : ∀ a ∈ s.books.accounts,
      (f a).reserved + (if a.user = n then amount (s.jobSlot i).claim else 0) = a.reserved + if a.user = n then amount y else 0)
    (hg : ∀ c ∈ s.books.folios, (g c).epoch = c.epoch ∧ (g c).state = c.state ∧ (g c).heldTotal = c.heldTotal ∧
      (g c).holdCount = c.holdCount ∧ (g c).Proper)
    (hpins : ∀ c ∈ s.books.folios,
      (g c).pins + (if c.epoch = e then (s.jobSlot i).claim.toList.length else 0) = c.pins + if c.epoch = e then y.toList.length else 0) :
    ({ s.books with
      accounts := s.books.accounts.map f, folios := s.books.folios.map g, claims := s.books.claims.set i.val y } : Books).Lawful := by
  have hi : i.val < s.books.claims.length := Nat.lt_of_lt_of_eq i.isLt h.slots.symm
  obtain ⟨l, r, hl, -, hset⟩ := List.exists_of_set (a' := y) hi
  rw [← jobSlot_claim i (by simpa [State.books] using hi)] at hl
  rw [hset]
  exact h.exchangeClaim hl hx hy owner entry hf hreserved hg hpins

/-- An admitted RESTORE-BEGIN (R136). -/
theorem beginJob_books_lawful (h : s.books.Lawful) {i : Fin 8} {u : UserRec} {e : Epoch} {c : CatEntry} {n : Nat} (hi : s.slotFree i = true)
    (hu : u ∈ s.users) (hr : u.state ≠ .retiring) (hc : s.findEpoch e = some c) (ha : c.state ≠ .asked) (hx : c.state ≠ .expiring) :
    (s.beginJob i u e n).books.Lawful := by
  have hclaim : (s.jobSlot i).claim = none := by simpa [State.slotFree, JobSlot.claim] using hi
  have hce := findEpoch_epoch hc
  have hbooks : (s.beginJob i u e n).books =
      (({ s.books with claims := s.books.claims.set i.val (some { user := u.user, epoch := e, units := n }) } : Books).onEpoch e fun c =>
        { c with pins := c.pins + 1 }).post { u.account with reserved := u.reserved + n } := by
    refine (commit_books (by exact h.users_nodup) _ _).trans (congrArg _ ((modifyEpoch_books (by exact h.catalogue.nodup) e fun _ => rfl).trans
      (congrArg _ (setJob_books i _))))
  rw [hbooks]
  refine exchangeClaim_lawful h (n := u.user) (e := e) (by simp [hclaim]) ?_ (fun _ => ⟨_, mem_accounts hu, rfl⟩)
    (fun _ => ⟨_, mem_folios (findEpoch_mem hc), hce⟩) (fun a ha => ?_) (fun a ha => ?_) (fun d hd => ?_) fun d hd => ?_
  · rintro z ⟨⟩
    exact ⟨rfl, rfl⟩
  · rcases put_cases h hu (v := { u.account with reserved := u.reserved + n }) rfl ha with ⟨rfl, hp⟩ | ⟨-, hp⟩ <;> rw [hp]
    · exact ⟨rfl, rfl, fun hret => absurd (of_decide_eq_true hret) hr⟩
    · exact ⟨rfl, rfl, h.accounts a ha⟩
  · rw [hclaim]
    rcases put_cases h hu (v := { u.account with reserved := u.reserved + n }) rfl ha with ⟨rfl, hp⟩ | ⟨hne, hp⟩ <;> rw [hp]
    · simp [UserRec.account, amount]
    · simp [hne]
  · rcases onEpoch_cases h hc (fun c => { c with pins := c.pins + 1 }) hd with ⟨rfl, hp⟩ | ⟨-, hp⟩ <;> rw [hp]
    · exact ⟨rfl, rfl, rfl, rfl, fun hs => absurd hs ha, fun hs => absurd hs (by simp [CatEntry.folio, ha, hx])⟩
    · exact ⟨rfl, rfl, rfl, rfl, h.folios d hd⟩
  · rw [hclaim]
    rcases onEpoch_cases h hc (fun c => { c with pins := c.pins + 1 }) hd with ⟨rfl, hp⟩ | ⟨hne, hp⟩ <;> rw [hp]
    · simp [CatEntry.folio, hce]
    · simp [hne]

theorem restoreBeginAccess_books_lawful (n : Nat) (e : Epoch) (k : Nat) (h : s.books.Lawful) : (restoreBeginAccess n e k s).1.books.Lawful := by
  unfold restoreBeginAccess
  split
  · exact h
  · split
    · exact h
    · refine withUser_keeps h fun u hu => ?_
      simp only []
      split
      · exact h
      · rename_i c hc
        split
        · exact h
        · rename_i ha
          split
          · exact h
          · rename_i hx
            split
            · exact h
            · rename_i i hi
              split
              · exact beginJob_books_lawful h (List.find?_some hi) (findActive_mem hu) (findActive_eq_some.1 hu).2 hc (fun hk => ha (.inl hk)) hx
              · exact h

/-- A job's claim stands in the books. -/
theorem claim_mem (h : s.books.Lawful) {i : Fin 8} {j : Job} (hj : (s.jobSlot i).job = some j) : j.claim ∈ s.books.claims.reduceOption := by
  have hi : i.val < s.books.claims.length := Nat.lt_of_lt_of_eq i.isLt h.slots.symm
  have hm := List.getElem_mem hi
  rw [← jobSlot_claim i (by simpa [State.books] using hi), JobSlot.claim, hj] at hm
  exact List.reduceOption_mem_iff.2 hm

/-- What a job has reserved for a user whose record has left or is RETIRING is nothing (R34, R139). -/
theorem remaining_of_inactive (h : s.books.Lawful) {j : Job} (hj : j.claim ∈ s.books.claims.reduceOption) (hu : s.findActive j.user = none) :
    j.remaining = 0 := by
  by_contra h0
  obtain ⟨u, hf⟩ : ∃ u, s.findUser j.user = some u := findUser_isSome (h.claims.owner _ hj (Nat.pos_of_ne_zero h0))
  have hr : u.state = .retiring := by
    by_contra hr
    rw [findActive_eq_some.2 ⟨hf, hr⟩] at hu
    cases hu
  have hua := mem_accounts (findUser_mem hf)
  have hle : j.remaining ≤ u.reserved := h.claims.units_le hj hua (findUser_user hf).symm
  have hz : u.reserved = 0 := (h.accounts _ hua (decide_eq_true hr)).2
  omega

/-- A job's user reserves the less by `k`; where the record has left or is RETIRING, `k` is nothing (R138 to R140). -/
theorem changeJobUser_books (h : s.books.Lawful) {j : Job} {k : Nat} {f : UserRec → UserRec} (hj : j.claim ∈ s.books.claims.reduceOption)
    (hk : k ≤ j.remaining) (hf : ∀ u, (f u).account = { u.account with reserved := u.reserved - k }) :
    ∃ F : Account → Account,
      (∀ t : State, t.users = s.users → (t.changeJobUser j.user f).books = { t.books with accounts := t.books.accounts.map F }) ∧
      ∀ a ∈ s.books.accounts, ((F a).user = a.user ∧ (F a).held = a.held ∧ (F a).Proper) ∧
        (F a).reserved + (if a.user = j.user then k else 0) = a.reserved := by
  have hfind : ∀ t : State, t.users = s.users → t.findActive j.user = s.findActive j.user := by
    intro t ht
    simp only [State.findActive, State.findUser, ht]
  have hacc : ∀ t : State, t.users = s.users → t.books.accounts = s.books.accounts := fun t ht => by rw [State.books, ht]; rfl
  cases hu : s.findActive j.user with
  | none =>
    have hz := remaining_of_inactive h hj hu
    refine ⟨id, fun t ht => ?_, fun a ha => ⟨⟨rfl, rfl, h.accounts a ha⟩, ?_⟩⟩
    · unfold State.changeJobUser
      rw [hfind t ht, hu, List.map_id]
    · split
      · simp only [id]
        omega
      · rfl
  | some u =>
    have hum := findActive_mem hu
    have huj := findUser_user (findActive_eq_some.1 hu).1
    refine ⟨Account.put { u.account with reserved := u.reserved - k }, fun t ht => ?_, fun a ha => ?_⟩
    · unfold State.changeJobUser
      rw [hfind t ht, hu, ← hf u]
      exact commit_books (by rw [hacc t ht]; exact h.users_nodup) _ _
    · have hle : j.remaining ≤ u.reserved := h.claims.units_le hj (mem_accounts hum) huj.symm
      rcases put_cases h hum (v := { u.account with reserved := u.reserved - k }) rfl ha with ⟨rfl, hp⟩ | ⟨hne, hp⟩ <;> rw [hp]
      · refine ⟨⟨rfl, rfl, fun hr => absurd (of_decide_eq_true hr) (findActive_eq_some.1 hu).2⟩, ?_⟩
        simp only [UserRec.account, huj, if_true]
        omega
      · exact ⟨⟨rfl, rfl, h.accounts a ha⟩, by simp [huj ▸ hne]⟩

/-- Units pass from the reservation to live space (R138). -/
theorem progressJob_books_lawful (h : s.books.Lawful) {i : Fin 8} {j : Job} {k : Nat} (hj : (s.jobSlot i).job = some j)
    (hk : k ≤ j.remaining) : (s.progressJob i j k).books.Lawful := by
  have hclaim : (s.jobSlot i).claim = some j.claim := by rw [JobSlot.claim, hj]; rfl
  have hm := claim_mem h hj
  obtain ⟨F, hbooks, hF⟩ := changeJobUser_books h hm hk
    (f := fun u => { u with reserved := u.reserved - k, live := u.live + k }) fun _ => rfl
  have hb : (s.progressJob i j k).books = { s.books with
      accounts := s.books.accounts.map F, folios := s.books.folios.map id
      claims := s.books.claims.set i.val (some { j.claim with units := j.remaining - k }) } := by
    unfold State.progressJob
    refine (hbooks _ ?_).trans ?_
    · rfl
    · rw [setJob_books, List.map_id]
      rfl
  rw [hb]
  refine exchangeClaim_lawful h (n := j.user) (e := j.epoch) (by simp [hclaim, Job.claim]) (by simp [Job.claim]) (fun h0 => ?_)
    (fun _ => h.claims.entry _ hm) (fun a ha => (hF a ha).1) (fun a ha => ?_) (fun d hd => ⟨rfl, rfl, rfl, rfl, h.folios d hd⟩) fun d _ => ?_
  · exact h.claims.owner _ hm (Nat.lt_of_lt_of_le h0 (Nat.sub_le _ _))
  · have ha' := (hF a ha).2
    simp only [hclaim, amount, Option.map_some, Option.getD_some, Job.claim]
    split at ha' <;> simp only [*, if_true, if_false] <;> omega
  · simp [hclaim]

/-- The end of a job (R140, R143, R146). -/
theorem endJob_books_lawful (h : s.books.Lawful) {i : Fin 8} {j : Job} (hj : (s.jobSlot i).job = some j) : (s.endJob i j).books.Lawful := by
  have hclaim : (s.jobSlot i).claim = some j.claim := by rw [JobSlot.claim, hj]; rfl
  have hm := claim_mem h hj
  obtain ⟨F, hbooks, hF⟩ := changeJobUser_books h hm (Nat.le_refl j.remaining)
    (f := fun u => { u with reserved := u.reserved - j.remaining }) fun _ => rfl
  obtain ⟨c, hc⟩ : ∃ c, s.findEpoch j.epoch = some c := findEpoch_isSome (h.claims.entry _ hm)
  have hcf := mem_folios (findEpoch_mem hc)
  have hce := findEpoch_epoch hc
  have hpos : 0 < c.pins := h.claims.count_pos hm hcf hce.symm
  have hcp := h.folios _ hcf
  have hb : (s.endJob i j).books = { s.books with
      accounts := s.books.accounts.map F
      folios := s.books.folios.map (Folio.onEpoch j.epoch fun c => { c with pins := c.pins - 1 })
      claims := s.books.claims.set i.val none } := by
    unfold State.endJob
    refine (hbooks _ ?_).trans ?_
    · rfl
    · rw [modifyEpoch_books (by exact h.catalogue.nodup) j.epoch (g := fun c => { c with pins := c.pins - 1 }) fun _ => rfl, setJob_books]
      rfl
  rw [hb]
  refine exchangeClaim_lawful h (n := j.user) (e := j.epoch) (by simp [hclaim, Job.claim]) (by simp) (by simp [amount]) (by simp)
    (fun a ha => (hF a ha).1) (fun a ha => ?_) (fun d hd => ?_) fun d hd => ?_
  · have ha' := (hF a ha).2
    simpa [hclaim, amount, Job.claim] using ha'
  · rcases onEpoch_cases h hc (fun c => { c with pins := c.pins - 1 }) hd with ⟨rfl, hp⟩ | ⟨-, hp⟩ <;> rw [hp]
    · refine ⟨rfl, rfl, rfl, rfl, hcp.1, fun hs => ?_⟩
      have h0 : c.pins = 0 := hcp.2 hs
      omega
    · exact ⟨rfl, rfl, rfl, rfl, h.folios d hd⟩
  · rcases onEpoch_cases h hc (fun c => { c with pins := c.pins - 1 }) hd with ⟨rfl, hp⟩ | ⟨hne, hp⟩ <;> rw [hp]
    · simp only [CatEntry.folio, hce, hclaim, if_true, Option.toList_some, Option.toList_none, List.length_singleton, List.length_nil]
      omega
    · simp [hne]

theorem jobOf_job {handle : Nat} {j : Job} (h : s.jobOf handle = some j) : (s.jobSlot (handleSlot handle)).job = some j := by
  unfold State.jobOf at h
  split at h
  · exact h
  · cases h

theorem releaseJob_job {i gen : Fin 8} {j : Job} (h : s.releaseJob i gen = some j) : (s.jobSlot i).job = some j := by
  unfold State.releaseJob at h
  split at h
  · exact h
  · cases h

theorem restoreProgressAccess_books_lawful (handle k : Nat) (h : s.books.Lawful) : (restoreProgressAccess handle k s).1.books.Lawful := by
  unfold restoreProgressAccess
  iterate 3 (split; · exact h)
  split
  · exact h
  · rename_i j hj
    exact progressJob_books_lawful h (jobOf_job hj) (Nat.min_le_right _ _)

theorem restoreEndAccess_books_lawful (handle : Nat) (h : s.books.Lawful) : (restoreEndAccess handle s).1.books.Lawful := by
  unfold restoreEndAccess
  split
  · exact h
  · split
    · exact h
    · rename_i j hj
      exact endJob_books_lawful h (jobOf_job hj)

theorem idleRelease_books_lawful (i gen : Fin 8) (h : s.books.Lawful) : (s.idleRelease i gen).books.Lawful := by
  unfold State.idleRelease
  split
  · exact h
  · rename_i j hj
    split
    · exact endJob_books_lawful h (releaseJob_job hj)
    · exact h.of_eq (setJob_books_same gen (releaseJob_job hj) rfl)

theorem serveIdleRelease_books_lawful (h : s.books.Lawful) : s.serveIdleRelease.books.Lawful := by
  have ht := settle_books_lawful h
  unfold State.serveIdleRelease
  generalize s.settle = t at ht
  simp only []
  split
  · rename_i i gen rest _
    exact idleRelease_books_lawful i gen (s := { t with class1 := rest }) ht
  all_goals exact h

theorem restartRelease_books_lawful (i gen : Fin 8) (h : s.books.Lawful) : (s.restartRelease i gen).books.Lawful := by
  unfold State.restartRelease
  split
  · exact h
  · rename_i j hj
    exact endJob_books_lawful h (releaseJob_job hj)

theorem finishRestart_books_lawful (h : s.books.Lawful) : s.finishRestart.books.Lawful := by
  unfold State.finishRestart
  split
  · exact h
  · split
    · exact h
    · split <;> exact h

theorem serveRestartRelease_books_lawful (h : s.books.Lawful) : s.serveRestartRelease.books.Lawful := by
  have ht := settle_books_lawful h
  unfold State.serveRestartRelease
  generalize s.settle = t at ht
  simp only []
  split
  · rename_i i gen rest _
    exact finishRestart_books_lawful (restartRelease_books_lawful i gen (s := { t with class1 := rest }) ht)
  all_goals exact h

end Sys2Proof.Machine
end

section
/-! PROOFS. The snapshots and the Peer View keep the law of the books (R69 to R91, R93 to R114). -/

namespace Sys2Proof.Machine

variable {s : State}

/-! ### Snapshots -/

theorem spanHolds_iff {l : Epoch} :
    s.spanHolds l = true ↔ ∀ c ∈ s.books.folios, c.state = .asked ∨ (l - c.epoch).toNat ≤ Config.span := by
  simp [State.spanHolds, State.books, CatEntry.folio]

/-- The successor of the latest epoch is newer than it (R93, R99). -/
theorem nextEpoch_newer (latest : Option Epoch) : newerThanLatest (nextEpoch latest) latest = true := by
  cases latest with
  | none => rfl
  | some l =>
    have hd : l + 1 - l = 1 := by simp
    rw [newerThanLatest, nextEpoch, newer_iff, hd]
    decide

/-- No entry has an epoch that is newer than the latest (R94, R95). -/
theorem CatalogueLaw.fresh {F : List Folio} {latest : Option Epoch} {e : Epoch} (h : CatalogueLaw F latest)
    (hn : newerThanLatest e latest = true) : ∀ c ∈ F, c.epoch ≠ e := by
  rintro c hc rfl
  obtain ⟨l, rfl, hl, -⟩ := h.known c hc
  obtain ⟨h1, h2⟩ := newer_iff.1 hn
  have hspan : Config.span = 32767 := rfl
  bv_omega

/-- A new entry of an epoch that is newer than the latest, which it becomes (R99, R101). -/
theorem Books.Lawful.propose {b : Books} {e : Epoch} (h : b.Lawful) (newer : newerThanLatest e b.latest = true)
    (asked : ∀ c ∈ b.folios, c.state ≠ .asked) (span : ∀ c ∈ b.folios, (e - c.epoch).toNat ≤ Config.span)
    (room : b.folios.length < Config.catalogueSlots) :
    ({ b with
      folios := b.folios ++ [{ epoch := e, state := .asked, heldTotal := 0, holdCount := 0, pins := 0 }], latest := some e } : Books).Lawful :=
  (h.advance asked span).appendFolio rfl room asked (h.catalogue.fresh newer)

theorem snapTake_books_lawful (h : s.books.Lawful) : (snapTake s).1.books.Lawful := by
  unfold snapTake
  split
  · exact h
  · rename_i hbusy
    split
    · exact h
    · rename_i hroom
      split
      · exact h
      · rename_i hspan
        have hasked : ∀ c ∈ s.books.folios, c.state ≠ .asked := List.forall_mem_map.2 fun c hc hs =>
          hbusy (List.any_eq_true.2 ⟨c, hc, decide_eq_true (.inl hs)⟩)
        have hbooks : (s.propose (nextEpoch s.latest)).books = { s.books with
            folios := s.books.folios ++ [{ epoch := nextEpoch s.latest, state := .asked, heldTotal := 0, holdCount := 0, pins := 0 }]
            latest := some (nextEpoch s.latest) } := by
          refine (offerEpoch_books _).trans ?_
          simp only [State.books, List.map_append]
          rfl
        refine Books.Lawful.of_eq (h.propose (nextEpoch_newer s.latest) hasked (fun c hc => ?_) ?_) hbooks
        · exact (spanHolds_iff.1 (Bool.eq_true_of_not_eq_false hspan) c hc).resolve_left (hasked c hc)
        · simpa [State.books] using hroom

theorem snapReady_books_lawful (e : Epoch) (h : s.books.Lawful) : (snapReady e s).1.books.Lawful := by
  unfold snapReady
  split
  · exact h
  · rename_i c hc
    split
    · rename_i ha
      refine closeTest_books_lawful e (Books.Lawful.of_eq ?_ (offerEpoch_books _))
      exact setEntryState_lawful (x := .ready) h hc (fun _ => rfl) (by simp) (by simp [ha]) (by simp)
    · exact h

/-- After an advance's removal of the ASKED entry no entry is ASKED, and the span that was tested holds (R94, R100). -/
theorem abandonAsked_span (b : Bool) {l : Epoch} (h : s.books.Lawful) (hs : s.spanHolds l = true) :
    ∀ c ∈ (s.abandonAsked b).books.folios, c.state ≠ .asked ∧ (l - c.epoch).toNat ≤ Config.span := by
  rw [abandonAsked_books b h]
  intro c hc
  obtain ⟨hm, ha⟩ := List.mem_filter.1 hc
  have ha : c.state ≠ .asked := by simpa using ha
  exact ⟨ha, (spanHolds_iff.1 hs c hm).resolve_left ha⟩

theorem abandonAsked_latest (b : Bool) (h : s.books.Lawful) : (s.abandonAsked b).books.latest = s.latest := by
  rw [abandonAsked_books b h]
  rfl

theorem newProposal_books_lawful (st : Station) {e : Epoch} (early : StationSet) (hn : newerThanLatest e s.latest = true)
    (h : s.books.Lawful) : (s.newProposal st e early).books.Lawful := by
  unfold State.newProposal
  split
  · rename_i hspan
    have ht := abandonAsked_books_lawful true h
    have hfol := abandonAsked_span true h hspan
    rw [← abandonAsked_latest true h] at hn
    generalize s.abandonAsked true = t at ht hfol hn
    unfold State.enterProposal
    split
    · rename_i hroom
      refine (ht.propose hn (fun c hc => (hfol c hc).1) (fun c hc => (hfol c hc).2) (by simpa [State.books] using hroom)).of_eq ?_
      simp only [State.books, raise_cat, List.map_append]
      rfl
    · exact ht.advance (fun c hc => (hfol c hc).1) fun c hc => (hfol c hc).2
  · exact h

@[simp] theorem answerStale_books (l : Epoch) : (s.answerStale l).books = s.books := by
  unfold State.answerStale
  split
  · rfl
  · rw [offerEpoch_books, withdraw_books]

theorem receiveProposal_books_lawful (st : Station) (e : Epoch) (h : s.books.Lawful) : (receiveProposal st e s).books.Lawful := by
  unfold receiveProposal
  split
  · rename_i hn
    exact newProposal_books_lawful st _ hn h
  · split
    · exact h
    · split
      · exact h.of_eq (withdraw_books _)
      · exact h.of_eq (answerStale_books _)

@[simp] theorem heardReady_folio (st : Station) (c : CatEntry) : (heardReady st c).folio = c.folio := by
  unfold heardReady
  split <;> rfl

theorem receiveReady_books_lawful (st : Station) (e : Epoch) (h : s.books.Lawful) : (receiveReady st e s).books.Lawful := by
  unfold receiveReady
  split
  · exact closeTest_books_lawful e (h.of_eq (modifyEpoch_books_same e (heardReady_folio st)))
  · split
    · rename_i hn
      exact newProposal_books_lawful st _ hn h
    · exact h

theorem hearLatest_books_lawful (l : Epoch) (h : s.books.Lawful) : (s.hearLatest l).books.Lawful := by
  unfold State.hearLatest
  split
  · split
    · rename_i hspan
      have hfol := abandonAsked_span true h hspan
      exact (abandonAsked_books_lawful true h).advance (fun c hc => (hfol c hc).1) fun c hc => (hfol c hc).2
    · exact h
  · exact h

/-! ### The Peer View and the sweeps -/

theorem nextUser_mem {p : Option Nat} {u : UserRec} (hu : s.nextUser p = some u) : u ∈ s.users := List.mem_of_find?_eq_some hu

theorem removeStation_books_lawful (st : Station) {u : UserRec} (hu : u ∈ s.users) (h : s.books.Lawful) :
    (s.removeStation st u).books.Lawful := by
  unfold State.removeStation
  split
  · exact commit_books_lawful h hu rfl
  · exact h

theorem completeDrop_books_lawful (st : Station) (k : Nat) (h : s.books.Lawful) : (s.completeDrop st k).books.Lawful := by
  unfold State.completeDrop
  exact h.withSweep (sweepLaw_of_not_expiry (by simp))

theorem continueDrop_books_lawful (st : Station) (p : Option Nat) (k : Nat) (h : s.books.Lawful) :
    (s.continueDrop st p k).books.Lawful := by
  unfold State.continueDrop
  split
  · exact completeDrop_books_lawful st k h
  · exact h.withSweep (sweepLaw_of_not_expiry (by simp))

theorem dropStep_books_lawful (st : Station) (p : Option Nat) (k : Nat) (h : s.books.Lawful) : (s.dropStep st p k).books.Lawful := by
  unfold State.dropStep
  split
  · exact completeDrop_books_lawful st k h
  · rename_i u hu
    exact continueDrop_books_lawful _ _ _ (removeStation_books_lawful st (nextUser_mem hu) h)

theorem serveDropStep_books_lawful (h : s.books.Lawful) : s.serveDropStep.books.Lawful := by
  have ht := settle_books_lawful h
  unfold State.serveDropStep
  generalize s.settle = t at ht
  simp only []
  split
  · split
    · exact dropStep_books_lawful _ _ _ ht
    · exact h
  all_goals exact h

theorem peerDrop_books_lawful (n : Nat) (h : s.books.Lawful) : (peerDrop n s).1.books.Lawful := by
  unfold peerDrop
  split
  · simp only []
    iterate 3 (split; · exact h)
    exact continueDrop_books_lawful _ _ _ h
  · exact h

theorem cutDrop_books_lawful (st : Station) (served : Bool) (h : s.books.Lawful) : (s.cutDrop st served).books.Lawful := by
  unfold State.cutDrop
  split
  · exact h
  · exact h
  · rename_i position _ _ _
    split
    · split
      · exact h.withSweep (sweepLaw_of_not_expiry (by simp))
      · rename_i u hu
        have hn : s.nextUser position = some u := by
          cases served
          · simp at hu
          · simpa using hu
        exact (removeStation_books_lawful st (nextUser_mem hn) h).withSweep (sweepLaw_of_not_expiry (by simp))
    · exact h

theorem hear_books_lawful (st : Station) (served : Bool) (h : s.books.Lawful) : (s.hear st served).books.Lawful := by
  unfold State.hear
  split
  · exact h
  · simp only []
    split
    · exact h
    · exact h
    · exact cutDrop_books_lawful (s := State.raise _ _ _ (s.setPeer st _)) st served h

@[simp] theorem receiveReport_account (st : Station) (x : Nat) (u : UserRec) : (receiveReport st x u).account = u.account := by
  unfold receiveReport
  split
  · split <;> rfl
  · split
    · rfl
    · split
      · rfl
      · unfold meetFullList
        split
        · rfl
        · split <;> rfl

theorem receiveUsage_books_lawful (st : Station) (n x : Nat) (h : s.books.Lawful) : (receiveUsage st n x s).books.Lawful := by
  unfold receiveUsage
  split
  · exact h
  · rename_i u hu
    exact commit_books_lawful h (findActive_mem hu) (receiveReport_account st x u)

theorem receivePresence_books_lawful (st : Station) (l : Option Epoch) (h : s.books.Lawful) : (receivePresence st l s).books.Lawful := by
  unfold receivePresence
  cases l with
  | none => exact h
  | some l => exact hearLatest_books_lawful (s := s.setPeer st _) l h

theorem receive_books_lawful {α : Type} (pick : Notice → Option α) {act : Station → α → State → State}
    (hAct : ∀ st a (v : State), v.books.Lawful → (act st a v).books.Lawful) (h : s.books.Lawful) : (s.receive pick act).books.Lawful :=
  receive_keeps (fun v => v.books.Lawful) pick act (fun _ => settle_books_lawful) (fun _ hv => hv) hAct s h

theorem serveUsage_books_lawful (h : s.books.Lawful) : s.serveUsage.books.Lawful := by
  unfold State.serveUsage
  split
  · exact receive_books_lawful _ (fun st r _ => receiveUsage_books_lawful st r.1 r.2) h
  · exact h

theorem visitDigest_books {u : UserRec} (hu : u ∈ s.users) (h : s.books.Lawful) : (s.visitDigest u).books = s.books := by
  unfold State.visitDigest
  simp only []
  split
  · exact putUser_books_same (v := { u with reported := ownCharge s.settings.heldWeight u, reportDue := false }) h hu rfl
  · rfl

theorem serveDigestVisit_books_lawful (h : s.books.Lawful) : s.serveDigestVisit.books.Lawful := by
  have ht := settle_books_lawful h
  unfold State.serveDigestVisit
  generalize s.settle = t at ht
  simp only []
  split
  · split
    · exact h
    · rename_i u hu
      exact ht.of_eq (visitDigest_books (digestRecord_mem hu) ht)
  · exact h

theorem digestResume_books : (digestResume s).1.books = s.books := by
  unfold digestResume
  simp only []
  split <;> rfl

theorem reachGap_books : s.reachGap.books = s.books := by
  unfold State.reachGap
  split <;> rfl

theorem endScan_books : s.endScan.books = s.books := by
  unfold State.endScan
  split
  · rfl
  · split <;> rfl

theorem continueScan_books : s.continueScan.books = s.books := by
  unfold State.continueScan
  split
  · exact endScan_books
  · rfl

theorem visitGrace_books_lawful {u : UserRec} (hu : u ∈ s.users) (h : s.books.Lawful) : (s.visitGrace u).books.Lawful := by
  unfold State.visitGrace
  split
  · exact putState_books_lawful (s := s.raise _ _ _) h hu ⟨rfl, rfl, rfl⟩ (by simp)
  · rename_i n hg
    refine h.of_eq (putUser_books_same (v := { u with state := .grace n }) h hu ?_)
    simp [UserRec.account, hg]
  all_goals exact h

theorem scanVisit_books_lawful (h : s.books.Lawful) : s.scanVisit.books.Lawful := by
  unfold State.scanVisit
  split
  · exact h.of_eq endScan_books
  · rename_i u hu
    exact Books.Lawful.of_eq (visitGrace_books_lawful (nextUser_mem hu) h) (continueScan_books (s := { s.visitGrace u with scan := _ }))

theorem serveScanVisit_books_lawful (h : s.books.Lawful) : s.serveScanVisit.books.Lawful := by
  have ht := settle_books_lawful h
  unfold State.serveScanVisit
  generalize s.settle = t at ht
  simp only []
  split
  · exact scanVisit_books_lawful ht
  · exact h

theorem peerQuery_books (n : Nat) : (peerQuery n s).1.books = s.books := by
  unfold peerQuery
  split
  · simp only []
    split <;> rfl
  · rfl

end Sys2Proof.Machine
end

section
/-! PROOFS. The Duplication Unit, the Peer Line, the Timebase and the station's own commands keep the law of the books; and so does every step
(R94, R95, R118, R120, R124, R127, R129, R136, R139, R140). -/

namespace Sys2Proof.Machine

variable {s : State}

/-! ### The Duplication Unit -/

theorem modifyWorkEpoch_books (w : DupWork) {f : CatEntry → CatEntry} (hf : ∀ c, (f c).folio = c.folio) :
    (s.modifyWorkEpoch w f).books = s.books := by
  unfold State.modifyWorkEpoch
  split
  · rfl
  · exact modifyEpoch_books_same _ hf

theorem dupExtent_books (e : Epoch) (token : Token) (units : Nat) : (dupExtent e token units s).1.books = s.books := by
  unfold dupExtent
  iterate 2 (split; · rfl)
  split
  · rfl
  · iterate 3 (split; · rfl)
    exact modifyEpoch_books_same (s := { s with dup := _ }) e fun _ => rfl

theorem dupEnd_books (e : Epoch) : (dupEnd e s).1.books = s.books := by
  unfold dupEnd
  split
  · rfl
  · iterate 2 (split; · rfl)
    exact modifyEpoch_books_same (s := { s with dup := _ }) e fun _ => rfl

theorem dupHalt_books : (dupHalt s).1.books = s.books := by
  unfold dupHalt
  split <;> rfl

theorem windowOpen_books : (windowOpen s).1.books = s.books := by
  unfold windowOpen
  split <;> rfl

theorem windowClose_books : (windowClose s).1.books = s.books := by
  unfold windowClose
  split <;> rfl

theorem grant_books (i : Fin 8) (q : DupEntry) (rest : List DupEntry) (charged : Dup) : (s.grant i q rest charged).books = s.books :=
  modifyWorkEpoch_books (s := { s with dup := _ }) q.work fun _ => rfl

theorem grantHead_books (i : Fin 8) (q : DupEntry) (rest : List DupEntry) : (grantHead i q rest s).1.books = s.books := by
  unfold grantHead
  split
  · rfl
  · split
    · rfl
    · exact grant_books _ _ _ _
  · split
    · rfl
    · exact grant_books _ _ _ _

theorem grantTake_books : (grantTake s).1.books = s.books := by
  unfold grantTake
  split
  · rfl
  · split
    · rfl
    · split
      · rfl
      · split
        · rfl
        · split
          · rfl
          · exact grantHead_books _ _ _

@[simp] theorem freeGrantSlot_books (i : Fin 8) (g : Grant) : (s.freeGrantSlot i g).books = s.books :=
  modifyWorkEpoch_books (s := { s with dup := _ }) g.work fun _ => rfl

@[simp] theorem returnEntry_books (w : DupWork) (retries : Nat) : (s.returnEntry w retries).books = s.books := by
  have hw := modifyWorkEpoch_books (s := { s with dup := { s.dup with
    queue := { work := w, parity := s.dup.returnParity, retries := retries } :: s.dup.queue } }) w
    (f := fun c => { c with queuedCount := c.queuedCount + 1 }) fun _ => rfl
  unfold State.returnEntry
  cases w with
  | extent e token units =>
    simp only []
    split
    · rfl
    · exact hw
  | endMark e => exact hw
  | halt => exact hw

theorem grantSucceeds_books (i : Fin 8) (g : Grant) : (s.grantSucceeds i g).books = s.books := by
  have hf := freeGrantSlot_books (s := s) i g
  unfold State.grantSucceeds
  simp only []
  split
  · exact (modifyEpoch_books_same (f := endSent) _ fun _ => rfl).trans hf
  · exact hf
  · exact hf

theorem sendDropped_folio (w : DupWork) (c : CatEntry) : (sendDropped w c).folio = c.folio := by
  unfold sendDropped
  split <;> rfl

theorem grantDropped_books (i : Fin 8) (g : Grant) : (s.grantDropped i g).books = s.books := by
  have hf := (modifyWorkEpoch_books g.work (sendDropped_folio g.work)).trans (freeGrantSlot_books (s := s) i g)
  unfold State.grantDropped
  simp only []
  split <;> exact hf

theorem grantDone_books (handle : Nat) (failed : Bool) : (grantDone handle failed s).1.books = s.books := by
  unfold grantDone
  split
  · rfl
  · split
    · rfl
    · split
      · split
        · exact (returnEntry_books _ _).trans (freeGrantSlot_books _ _)
        · exact grantDropped_books _ _
      · exact grantSucceeds_books _ _

theorem returnGrants_books : s.returnGrants.books = s.books :=
  foldl_keeps (fun v : State => v.books = s.books) _ _
    (fun _ g ht => ((returnEntry_books _ _).trans (freeGrantSlot_books g.1 g.2)).trans ht) s rfl

/-! ### The Peer Line -/

theorem startSending_books_lawful (h : s.books.Lawful) : s.startSending.books.Lawful := by
  have ht := settle_books_lawful h
  unfold State.startSending
  generalize s.settle = t at ht
  simp only []
  split
  · exact ht
  all_goals exact h

theorem loseArbitration_books_lawful (bit : Nat) (h : s.books.Lawful) : (s.loseArbitration bit).books.Lawful := by
  have ht := settle_books_lawful h
  unfold State.loseArbitration
  generalize s.settle = t at ht
  simp only []
  split
  · exact ht.of_eq abandonAttempt_books
  · exact h

theorem meetClash_books_lawful (bit : Nat) (h : s.books.Lawful) : (s.meetClash bit).books.Lawful := by
  have ht := settle_books_lawful h
  unfold State.meetClash
  generalize s.settle = t at ht
  simp only []
  split
  · split
    · exact h
    · exact ht.of_eq (endTransmission_books .clash)
  · exact h

theorem meetChange_books_lawful (byStart : Bool) (h : s.books.Lawful) : (s.meetChange byStart).books.Lawful := by
  have ht := settle_books_lawful h
  unfold State.meetChange
  generalize s.settle = t at ht
  simp only []
  split
  · split <;> exact ht.of_eq abandonAttempt_books
  · exact h

theorem actOnSlots_books (slotA slotR : Bool) : (s.actOnSlots slotA slotR).books = s.books := by
  unfold State.actOnSlots
  split
  · exact endTransmission_books _
  · split
    · exact endTransmission_books _
    · exact failAttempt_books

theorem endAttempt_books_lawful (slotA slotR : Bool) (h : s.books.Lawful) : (s.endAttempt slotA slotR).books.Lawful := by
  have ht := settle_books_lawful h
  unfold State.endAttempt
  generalize s.settle = t at ht
  simp only []
  split
  · exact ht.of_eq (actOnSlots_books slotA slotR)
  · exact h

theorem verdict_books (f : SampledFrame) (n : Notice) : (s.verdict f n).books = s.books := by
  unfold State.verdict
  simp only []
  iterate 4 (split; · rfl)
  rfl

theorem judgeFrame_books_lawful (f : SampledFrame) (h : s.books.Lawful) : (s.judgeFrame f).books.Lawful := by
  have ht := settle_books_lawful h
  unfold State.judgeFrame
  generalize s.settle = t at ht
  simp only []
  split
  · split
    · split
      · exact ht
      · exact ht.of_eq (verdict_books _ _)
    · exact h
  all_goals exact h

theorem stretchLimit_books : s.stretchLimit.books = s.books := by
  unfold State.stretchLimit
  split
  · split <;> rfl
  all_goals rfl

theorem frameStops_books_lawful (served : Bool) (h : s.books.Lawful) : (s.frameStops served).books.Lawful := by
  have ht := settle_books_lawful h
  unfold State.frameStops
  generalize s.settle = t at ht
  simp only []
  split
  · exact h
  · exact hear_books_lawful (s := t.makeAvailable.setLine _ _) _ served ht

theorem breakFrame_books (how : FrameBreak) : (s.breakFrame how).books = s.books := by
  unfold State.breakFrame
  split
  · cases how <;> rfl
  · rfl

theorem anotherStart_books : s.anotherStart.books = s.books := by
  unfold State.anotherStart
  split <;> rfl

theorem strayFall_books : s.strayFall.books = s.books := by
  unfold State.strayFall
  split <;> rfl

theorem busyEnds_books : s.busyEnds.books = s.books := by
  unfold State.busyEnds
  split <;> rfl

theorem gapEnds_books : s.gapEnds.books = s.books := by
  unfold State.gapEnds
  split <;> rfl

theorem attached_books : s.attached.books = s.books := by
  unfold State.attached
  split <;> rfl

theorem stick_books_lawful (w : Wires) (h : s.books.Lawful) : (s.stick w).books.Lawful := by
  have ht := settle_books_lawful h
  unfold State.stick
  generalize s.settle = t at ht
  simp only []
  split
  · split
    · exact ht.of_eq abandonAttempt_books
    · exact ht
  · exact h

theorem unstick_books_lawful (h : s.books.Lawful) : s.unstick.books.Lawful := by
  have ht := settle_books_lawful h
  unfold State.unstick
  generalize s.settle = t at ht
  simp only []
  split
  · exact ht
  · exact h

/-! ### The Timebase -/

theorem beacon_books : s.beacon.books = s.books := by
  unfold State.beacon
  split <;> rfl

theorem windowBoundary_books : s.windowBoundary.books = s.books := by
  unfold State.windowBoundary
  split <;> rfl

theorem boundaryOffers_books (windowFirst : Bool) : (s.boundaryOffers windowFirst).books = s.books := by
  unfold State.boundaryOffers
  split
  · exact beacon_books.trans (expireWindow_books.trans windowBoundary_books)
  · exact windowBoundary_books.trans beacon_books

theorem switchBack_books : s.switchBack.books = s.books := by
  unfold State.switchBack
  split
  · split <;> rfl
  · rfl

/-- The timers of the entries are not in the books (R110, R111). -/
theorem tickCatalogue_books : s.tickCatalogue.books = s.books := by
  unfold State.books State.tickCatalogue
  simp only [List.map_map]
  rfl

@[simp] theorem idleJob_claim (x : JobSlot) : (idleJob x).claim = x.claim := by
  unfold idleJob
  split
  · rfl
  · rename_i j hj
    split
    · rfl
    · simp [JobSlot.claim, hj, Job.claim]

/-- The idle counts of the jobs are not in the books (R141). -/
theorem tickJobs_books : s.tickJobs.books = s.books := by
  unfold State.books State.tickJobs
  simp only [List.map_map, Function.comp_def, idleJob_claim]

theorem startScan_books : s.startScan.books = s.books := by
  unfold State.startScan
  split
  · rfl
  · exact continueScan_books (s := { s with scan := _ })

theorem boundary_books_lawful (windowFirst : Bool) (h : s.books.Lawful) : (s.boundary windowFirst).books.Lawful := by
  have ht := settle_books_lawful h
  unfold State.boundary
  generalize s.settle = t at ht
  refine ht.of_eq ?_
  calc (t.advanceFrame.switchBack.agePeers.boundaryOffers windowFirst).tickCatalogue.tickJobs.startScan.books
    _ = (t.advanceFrame.switchBack.agePeers.boundaryOffers windowFirst).books := by rw [startScan_books, tickJobs_books, tickCatalogue_books]
    _ = t.advanceFrame.switchBack.agePeers.books := boundaryOffers_books windowFirst
    _ = t.advanceFrame.books := switchBack_books

theorem frameExpiry_books_lawful (windowFirst : Bool) (h : s.books.Lawful) : (s.frameExpiry windowFirst).books.Lawful := by
  unfold State.frameExpiry
  split
  · exact h
  · exact boundary_books_lawful windowFirst h

theorem loseReference_books_lawful (count : Nat) (windowFirst : Bool) (h : s.books.Lawful) :
    (s.loseReference count windowFirst).books.Lawful := by
  have ht := settle_books_lawful h
  unfold State.loseReference
  generalize s.settle = t at ht
  split
  · simp only []
    split
    · exact boundary_books_lawful (s := t.fallBack count) windowFirst ht
    · exact ht
  · exact h

theorem referenceAbsent_books : s.referenceAbsent.books = s.books := by
  unfold State.referenceAbsent
  split <;> rfl

theorem timebaseRetry_books : (timebaseRetry s).1.books = s.books := by
  unfold timebaseRetry
  split <;> rfl

/-! ### The station's own commands -/

theorem configure_books (c : Settings) : (configure c s).1.books = s.books := by
  unfold configure
  split
  · rfl
  · split
    · unfold State.accept
      simp only []
      split <;> rfl
    · rfl

theorem takeRestart_books_lawful (h : s.books.Lawful) : s.takeRestart.books.Lawful := by
  have ht := settle_books_lawful h
  unfold State.takeRestart
  generalize s.settle = t at ht
  exact finishRestart_books_lawful (ht.of_eq returnGrants_books)

theorem takeAtOnce_books_lawful (c : Byte) {handle : State → Answer} (hHandle : ∀ t : State, t.books.Lawful → (handle t).1.books.Lawful)
    (h : s.books.Lawful) : (s.takeAtOnce c handle).books.Lawful :=
  hHandle _ (settle_books_lawful h)

theorem takeAccess_books_lawful (a : Access) (h : s.books.Lawful) : (s.takeAccess a).books.Lawful := by
  have ht := settle_books_lawful h
  unfold State.takeAccess
  generalize s.settle = t at ht
  exact ht

theorem handOver_books_lawful (r : Request) (h : s.books.Lawful) : (handOver r s).books.Lawful := by
  cases r with
  | nop => exact h
  | configure c => exact takeAtOnce_books_lawful _ (fun _ ht => ht.of_eq (configure_books c)) h
  | restart => exact takeRestart_books_lawful h
  | stationQuery => exact takeAtOnce_books_lawful _ (fun _ ht => ht) h
  | readCause => exact takeAtOnce_books_lawful _ (fun _ ht => ht) h
  | timebaseRetry => exact takeAtOnce_books_lawful _ (fun _ ht => ht.of_eq timebaseRetry_books) h
  | access a => exact takeAccess_books_lawful a h
  | peerQuery st => exact takeAtOnce_books_lawful _ (fun _ ht => ht.of_eq (peerQuery_books st)) h
  | peerDrop st => exact takeAtOnce_books_lawful _ (fun _ => peerDrop_books_lawful st) h
  | digestHold => exact takeAtOnce_books_lawful _ (fun _ ht => ht) h
  | digestResume => exact takeAtOnce_books_lawful _ (fun _ ht => ht.of_eq digestResume_books) h
  | snapTake => exact takeAtOnce_books_lawful _ (fun _ => snapTake_books_lawful) h
  | snapReady e => exact takeAtOnce_books_lawful _ (fun _ => snapReady_books_lawful e) h
  | snapQuery e m => exact takeAtOnce_books_lawful _ (fun _ ht => ht) h
  | snapExpire e d => exact takeAtOnce_books_lawful _ (fun _ => snapExpire_books_lawful e d) h
  | dupExtent e t n => exact takeAtOnce_books_lawful _ (fun _ ht => ht.of_eq (dupExtent_books e t n)) h
  | dupEnd e => exact takeAtOnce_books_lawful _ (fun _ ht => ht.of_eq (dupEnd_books e)) h
  | dupHalt => exact takeAtOnce_books_lawful _ (fun _ ht => ht.of_eq dupHalt_books) h
  | windowOpen => exact takeAtOnce_books_lawful _ (fun _ ht => ht.of_eq windowOpen_books) h
  | windowClose => exact takeAtOnce_books_lawful _ (fun _ ht => ht.of_eq windowClose_books) h
  | grantTake => exact takeAtOnce_books_lawful _ (fun _ ht => ht.of_eq grantTake_books) h
  | grantDone x f => exact takeAtOnce_books_lawful _ (fun _ ht => ht.of_eq (grantDone_books x f)) h
  | dupQuery => exact takeAtOnce_books_lawful _ (fun _ ht => ht) h

/-- The end of a transaction, its request handed over (R182, R183). -/
theorem endTransaction_books_lawful (record : Record) (trailing : Bool) (h : s.books.Lawful) :
    (s.endTransaction record trailing handOver).books.Lawful :=
  endTransaction_keeps (fun v => v.books.Lawful) handOver (fun _ _ _ hv => hv) (fun _ _ hv => hv) (fun _ _ _ _ _ hv => hv)
    (fun r _ _ => handOver_books_lawful r) record trailing s h

/-- The books after a power-on (R191). -/
def Books.blank : Books where
  accounts := []
  folios := []
  latest := none
  holds := []
  claims := List.replicate 8 none
  sweep := .idle

theorem Books.blank_lawful : Books.blank.Lawful where
  users := List.Pairwise.nil
  accounts := List.forall_mem_nil _
  catalogue := ⟨Nat.zero_le _, List.Pairwise.nil, Nat.zero_le _, List.forall_mem_nil _⟩
  folios := List.forall_mem_nil _
  keys := List.nodup_nil
  units := List.forall_mem_nil _
  holds := ⟨List.forall_mem_nil _, List.forall_mem_nil _, List.forall_mem_nil _, List.forall_mem_nil _⟩
  totals := List.forall_mem_nil _
  slots := List.length_replicate
  claims := ⟨List.forall_mem_nil _, List.forall_mem_nil _, List.forall_mem_nil _, List.forall_mem_nil _⟩
  sweep := sweepLaw_of_not_expiry (by simp [Books.blank])

theorem powerOn_books_lawful (low : Bool) (st : Station) (ref : Bool) : (State.powerOn low st ref).books.Lawful :=
  Books.blank_lawful.of_eq rfl

theorem releaseReset_books (straps : Station) : (s.releaseReset straps).books = s.books := by
  unfold State.releaseReset
  split <;> rfl

theorem startTransaction_books : s.startTransaction.books = s.books := by
  unfold State.startTransaction
  split
  · rfl
  · split <;> rfl

/-! ### Accesses -/

theorem accessAnswer_books_lawful (a : Access) (h : s.books.Lawful) : (accessAnswer a s).1.books.Lawful := by
  cases a with
  | charge n k => exact chargeAccess_books_lawful n k h
  | credit n k => exact creditAccess_books_lawful n k h
  | userLoad n soft hard live => exact userLoadAccess_books_lawful n soft hard live h
  | userLimits n soft hard => exact userLimitsAccess_books_lawful n soft hard h
  | userFreeze n => exact userFreezeAccess_books_lawful n h
  | userThaw n => exact userThawAccess_books_lawful n h
  | userRetire n => exact userRetireAccess_books_lawful n h
  | userQuery n => exact withUser_keeps h fun _ _ => h
  | userResync n => exact userResyncAccess_books_lawful n h
  | userWatch n => exact userWatchAccess_books_lawful n h
  | userUnwatch n => exact withUser_keeps h fun _ _ => h
  | hold n e k => exact holdAccess_books_lawful n e k h
  | restoreBegin n e k => exact restoreBeginAccess_books_lawful n e k h
  | restoreProgress x k => exact restoreProgressAccess_books_lawful x k h
  | restoreEnd x => exact restoreEndAccess_books_lawful x h

theorem accessRequest_books_lawful (a : Access) (h : s.books.Lawful) : (s.accessRequest a (accessAnswer a)).books.Lawful :=
  accessRequest_keeps (fun v => v.books.Lawful) a (accessAnswer a) (fun _ => settle_books_lawful) (fun _ hv => hv)
    (fun _ => accessAnswer_books_lawful a) (fun _ _ hv => hv) (fun _ _ _ _ _ hv => hv) s h

/-! ### Every step -/

theorem exec_request_books_lawful (r : Request) (h : s.books.Lawful) : ∃ t, exec r.command s = .next t ∧ t.books.Lawful :=
  ⟨_, exec_command s r, endTransaction_books_lawful (.request r) false h⟩

theorem exec_access_books_lawful (a : Access) (h : s.books.Lawful) : ∃ t, exec a.command s = .next t ∧ t.books.Lawful :=
  ⟨_, exec_access a s, accessRequest_books_lawful a h⟩

/-- Every command keeps the law of the books. -/
theorem exec_books_lawful (c : Instr) (h : s.books.Lawful) : ∃ t, exec c s = .next t ∧ t.books.Lawful := by
  cases c with
  -- Power, RESET and the edges of a transaction.
  | powerOn refclk => exact ⟨_, rfl, powerOn_books_lawful true 0 refclk⟩
  | resetPinAssert => exact ⟨_, rfl, powerOn_books_lawful true s.station s.tb.refPresent⟩
  | resetPinRelease straps => exact ⟨_, rfl, h.of_eq (releaseReset_books straps)⟩
  | transactionStart => exact ⟨_, rfl, h.of_eq startTransaction_books⟩
  | replyDelivered =>
    refine ⟨_, rfl, ?_⟩
    split <;> exact h
  | linkTransactionOther edges ldi => exact ⟨_, rfl, endTransaction_books_lawful _ _ h⟩
  -- The requests.
  | localRequestTaken a => exact exec_request_books_lawful (.access a) h
  | nop => exact exec_request_books_lawful .nop h
  | configure c => exact exec_request_books_lawful (.configure c) h
  | restart => exact exec_request_books_lawful .restart h
  | stationQuery => exact exec_request_books_lawful .stationQuery h
  | readCause => exact exec_request_books_lawful .readCause h
  | timebaseRetry => exact exec_request_books_lawful .timebaseRetry h
  | peerQuery st => exact exec_request_books_lawful (.peerQuery st) h
  | peerDrop st => exact exec_request_books_lawful (.peerDrop st) h
  | digestHold => exact exec_request_books_lawful .digestHold h
  | digestResume => exact exec_request_books_lawful .digestResume h
  | snapTake => exact exec_request_books_lawful .snapTake h
  | snapReady e => exact exec_request_books_lawful (.snapReady e) h
  | snapQuery e m => exact exec_request_books_lawful (.snapQuery e m) h
  | snapExpire e d => exact exec_request_books_lawful (.snapExpire e d) h
  | dupExtent e t n => exact exec_request_books_lawful (.dupExtent e t n) h
  | dupEnd e => exact exec_request_books_lawful (.dupEnd e) h
  | dupHalt => exact exec_request_books_lawful .dupHalt h
  | windowOpen => exact exec_request_books_lawful .windowOpen h
  | windowClose => exact exec_request_books_lawful .windowClose h
  | grantTake => exact exec_request_books_lawful .grantTake h
  | grantDone x f => exact exec_request_books_lawful (.grantDone x f) h
  | dupQuery => exact exec_request_books_lawful .dupQuery h
  -- The accesses of waiting requests, and the other clients of class 1.
  | charge n k => exact exec_access_books_lawful (.charge n k) h
  | credit n k => exact exec_access_books_lawful (.credit n k) h
  | userLoad n soft hard live => exact exec_access_books_lawful (.userLoad n soft hard live) h
  | userLimits n soft hard => exact exec_access_books_lawful (.userLimits n soft hard) h
  | userFreeze n => exact exec_access_books_lawful (.userFreeze n) h
  | userThaw n => exact exec_access_books_lawful (.userThaw n) h
  | userRetire n => exact exec_access_books_lawful (.userRetire n) h
  | userQuery n => exact exec_access_books_lawful (.userQuery n) h
  | userResync n => exact exec_access_books_lawful (.userResync n) h
  | userWatch n => exact exec_access_books_lawful (.userWatch n) h
  | userUnwatch n => exact exec_access_books_lawful (.userUnwatch n) h
  | hold n e k => exact exec_access_books_lawful (.hold n e k) h
  | restoreBegin n e k => exact exec_access_books_lawful (.restoreBegin n e k) h
  | restoreProgress x k => exact exec_access_books_lawful (.restoreProgress x k) h
  | restoreEnd x => exact exec_access_books_lawful (.restoreEnd x) h
  | idleTimeoutRelease => exact ⟨_, rfl, serveIdleRelease_books_lawful h⟩
  | restartRelease => exact ⟨_, rfl, serveRestartRelease_books_lawful h⟩
  -- Frame boundaries, and what follows them.
  | frameBoundary windowFirst => exact ⟨_, rfl, frameExpiry_books_lawful windowFirst h⟩
  | peerGoneAge st => exact ⟨_, rfl, agePeer_books_lawful st h⟩
  | askTimerExpiry => exact ⟨_, rfl, expireAsk_books_lawful h⟩
  | closeTimerExpiry e => exact ⟨_, rfl, expireClose_books_lawful e h⟩
  | idleLimitReached slot =>
    refine ⟨_, rfl, ?_⟩
    split
    · exact h.of_eq (offerRelease_books slot)
    · exact h
  | windowLimitExpiry => exact ⟨_, rfl, h.of_eq expireWindow_books⟩
  | gapTimerReached => exact ⟨_, rfl, h.of_eq reachGap_books⟩
  | referenceFallback count windowFirst => exact ⟨_, rfl, loseReference_books_lawful count windowFirst h⟩
  | referenceEdgeReturns => exact ⟨_, rfl, h⟩
  | referenceMonitorAbsent => exact ⟨_, rfl, h.of_eq referenceAbsent_books⟩
  -- The scans and the sweeps.
  | graceScanVisit => exact ⟨_, rfl, serveScanVisit_books_lawful h⟩
  | digestSweepVisit => exact ⟨_, rfl, serveDigestVisit_books_lawful h⟩
  | expirySweepStep => exact ⟨_, rfl, serveExpiryStep_books_lawful h⟩
  | dropSweepStep => exact ⟨_, rfl, serveDropStep_books_lawful h⟩
  -- The receipts.
  | usageReceipt => exact ⟨_, rfl, serveUsage_books_lawful h⟩
  | epochProposeReceipt => exact ⟨_, rfl, receive_books_lawful _ (fun st e _ => receiveProposal_books_lawful st e) h⟩
  | epochReadyReceipt => exact ⟨_, rfl, receive_books_lawful _ (fun st e _ => receiveReady_books_lawful st e) h⟩
  | epochLatestReceipt => exact ⟨_, rfl, receive_books_lawful _ (fun _ l _ => hearLatest_books_lawful l) h⟩
  | shareReceipt => exact ⟨_, rfl, receive_books_lawful _ (fun _ _ _ hv => hv) h⟩
  | presenceReceipt => exact ⟨_, rfl, receive_books_lawful _ (fun st l _ => receivePresence_books_lawful st l) h⟩
  -- The Peer Line.
  | noticeSendStart => exact ⟨_, rfl, startSending_books_lawful h⟩
  | arbitrationLost bit => exact ⟨_, rfl, loseArbitration_books_lawful bit h⟩
  | stationNumberClash bit => exact ⟨_, rfl, meetClash_books_lawful bit h⟩
  | sendAttemptEnd slotA slotR => exact ⟨_, rfl, endAttempt_books_lawful slotA slotR h⟩
  | retiringRecordFreed n => exact ⟨_, rfl, freeRetired_books_lawful n h⟩
  | reportDueAfterLoss n => exact ⟨_, rfl, h.of_eq (dueAfterLoss_books n)⟩
  | noticeVerdict frame => exact ⟨_, rfl, judgeFrame_books_lawful frame h⟩
  | stretchTimeout => exact ⟨_, rfl, h.of_eq stretchLimit_books⟩
  | stretchEntryFreed => exact ⟨_, rfl, h.of_eq takeStretched_books⟩
  | noticeAvailable served => exact ⟨_, rfl, frameStops_books_lawful served h⟩
  | frameBroken how => exact ⟨_, rfl, h.of_eq (breakFrame_books how)⟩
  | strayClocking => exact ⟨_, rfl, h.of_eq strayFall_books⟩
  | busyTimeout => exact ⟨_, rfl, h.of_eq busyEnds_books⟩
  | idleGapEnd => exact ⟨_, rfl, h.of_eq gapEnds_books⟩
  | attachmentEnd => exact ⟨_, rfl, h.of_eq attached_books⟩
  | lineStuck wires => exact ⟨_, rfl, stick_books_lawful wires h⟩
  | lineRestored => exact ⟨_, rfl, unstick_books_lawful h⟩
  | anotherStationStart => exact ⟨_, rfl, h.of_eq anotherStart_books⟩
  | attemptAbandoned byStart => exact ⟨_, rfl, meetChange_books_lawful byStart h⟩

/-- Settles O60: the law of the ledgers is that of the books, which the command at the front keeps. -/
theorem everyStepKeepsLedgersLawful : Obligations.EveryStepKeepsLedgersLawful := by
  intro s t h ht
  unfold step at ht
  split at ht
  · cases ht
    exact h
  · rename_i c rest hp
    obtain ⟨u, hu, hl⟩ := exec_books_lawful (s := { s with pending := rest }) c (ledgersLawful_iff.1 h)
    rw [hu] at ht
    cases ht
    exact ledgersLawful_iff.2 hl

end Sys2Proof.Machine
end

section
/-! PROOFS. Snapshot epochs: SNAP-TAKE, SNAP-READY, the epoch notices, the close test, the abandonment and the two expiries (R93, R94, R99 to
R108, R110, R111). -/

namespace Sys2Proof.Machine

variable {s : State}

/-! ### Epochs (R93, R99) -/

/-- Of two epochs at most one is newer than the other (R93). -/
theorem newer_asymm {a b : Epoch} (h : newer a b = true) : newer b a = false := by
  rw [Bool.eq_false_iff, ne_eq, newer_iff]
  rw [newer_iff] at h
  bv_omega

/-- An advance keeps the span when every entry that is not ASKED stays within it (R94). -/
theorem spanHolds_entries {l : Epoch} : s.spanHolds l = true ↔ ∀ c ∈ s.cat, c.state = .asked ∨ (l - c.epoch).toNat ≤ 32767 := by
  simp only [State.spanHolds, List.all_eq_true, Bool.or_eq_true, decide_eq_true_eq]
  rfl

theorem spanHolds_eq_false {l : Epoch} :
    s.spanHolds l = false ↔ ¬∀ c ∈ s.cat, c.state = .asked ∨ (l - c.epoch).toNat ≤ 32767 := by
  rw [Bool.eq_false_iff, ne_eq, spanHolds_entries]

/-! ### SNAP-TAKE (R99) -/

theorem exec_snapTake (h : s.takesRequests) :
    exec .snapTake s = .next (State.answer (snapTake s.atTaking).2.1 48 false (snapTake s.atTaking).2.2 (snapTake s.atTaking).1) :=
  exec_takenAtOnce (r := .snapTake) (handle := snapTake) h.1 (.inl h.2) rfl (by simp)

theorem snapTake_busy (h : ∃ c ∈ s.cat, c.state = .asked ∨ c.state = .ready) : snapTake s = (s, .busy, .snapTake none) := by
  unfold snapTake
  rw [if_pos (by simpa using h)]

theorem snapTake_full (h : ¬∃ c ∈ s.cat, c.state = .asked ∨ c.state = .ready)
    (hfull : 64 ≤ s.cat.length ∨ s.spanHolds (nextEpoch s.latest) = false) : snapTake s = (s, .catalogueFull, .snapTake none) := by
  unfold snapTake
  rw [if_neg (by simpa using h)]
  split
  · rfl
  · rename_i hroom
    rw [if_pos (hfull.resolve_left hroom)]

theorem snapTake_proposes (h : ¬∃ c ∈ s.cat, c.state = .asked ∨ c.state = .ready) (hroom : s.cat.length < 64)
    (hspan : s.spanHolds (nextEpoch s.latest) = true) :
    snapTake s = (s.propose (nextEpoch s.latest), .ok, .snapTake (some (nextEpoch s.latest))) := by
  unfold snapTake
  rw [if_neg (by simpa using h), if_neg (show ¬Config.catalogueSlots ≤ _ from Nat.not_le.2 hroom), if_neg (by simp [hspan])]

/-- Settles O30: the order of the epochs by the difference modulo 65,536, and SNAP-TAKE by its three tests. -/
theorem snapTakeProposesTheNextEpoch : Obligations.SnapTakeProposesTheNextEpoch := by
  refine ⟨⟨fun a b => ?_, newer_self, fun a b => newer_asymm, fun _ => rfl, fun _ _ => rfl, fun e => ?_, rfl, by decide, by decide, by decide,
    by decide, by decide⟩, ?_⟩
  · rw [newer_iff, epoch_sub]
  · exact BitVec.toNat_add e 1
  · intro s hs
    have hexec := exec_snapTake hs
    rw [← atTaking_station s, ← atTaking_settings s]
    generalize s.atTaking = t at hexec
    refine ⟨fun ho => ?_, fun ho hf => ?_, fun ho hroom hspan => ?_⟩
    · rw [hexec, snapTake_busy ho]
    · rw [hexec, snapTake_full ho (hf.imp id spanHolds_eq_false.2)]
    · rw [hexec, snapTake_proposes ho hroom (spanHolds_entries.2 hspan)]
      rfl

/-! ### SNAP-READY (R105) -/

theorem exec_snapReady (h : s.takesRequests) (e : Epoch) :
    exec (.snapReady e) s =
      .next (State.answer (snapReady e s.atTaking).2.1 49 false (snapReady e s.atTaking).2.2 (snapReady e s.atTaking).1) :=
  exec_takenAtOnce (r := .snapReady e) (handle := snapReady e) h.1 (.inl h.2) rfl (by simp)

theorem snapReady_missing {e : Epoch} (h : s.findEpoch e = none) :
    snapReady e s = (s, .noSuchEpoch, .snapReady 0#16 0#16 false) := by
  unfold snapReady
  rw [h]

theorem snapReady_wrongState {e : Epoch} {c : CatEntry} (h : s.findEpoch e = some c) (ha : c.state ≠ .asked) :
    snapReady e s = (s, .wrongState, .snapReady 0#16 0#16 false) := by
  unfold snapReady
  rw [h]
  exact if_neg ha

theorem snapReady_asked {e : Epoch} {c : CatEntry} {early : StationSet} (h : s.findEpoch e = some c) (ha : c.state = .asked)
    (hearly : c.early = some early) :
    snapReady e s =
      (s.makeReady e, .ok, .snapReady s.presentSet (addTo s.station early) (within s.presentSet (addTo s.station early))) := by
  unfold snapReady
  rw [h]
  simp only [if_pos ha, readied, closes, setOf, hearly, Option.getD_some, decide_true, Bool.true_and]

/-- Settles O31: by the entry that the epoch has. -/
theorem snapReadyMakesTheEntryReady : Obligations.SnapReadyMakesTheEntryReady := by
  intro s e hs
  have hexec := exec_snapReady hs e
  rw [← atTaking_station s, ← atTaking_settings s]
  generalize s.atTaking = t at hexec
  refine ⟨fun hn => ?_, fun c hc ha => ?_, fun c early hc ha hearly => ?_, inSet_presentSet t⟩
  · rw [hexec, snapReady_missing hn]
  · rw [hexec, snapReady_wrongState hc ha]
  · rw [hexec, snapReady_asked hc ha hearly]
    rfl

/-! ### A newer proposal (R94, R101) -/

@[simp] theorem abandonAsked_settings (b : Bool) (s : State) : (s.abandonAsked b).settings = s.settings := by
  unfold State.settings
  rw [(outmost_parts (outmost_of_outer (abandonAsked_outer b s))).2.1]

@[simp] theorem withRecv_settings (rest : List RxNotice) (s : State) : (s.withRecv rest).settings = s.settings := by
  simp [State.settings, State.withRecv]

theorem newProposal_beyond (st : Station) {e : Epoch} (early : StationSet) (h : s.spanHolds e = false) :
    s.newProposal st e early = s.raise .catalogueFull (.epoch e) (some (.catalogue true)) := by
  unfold State.newProposal
  rw [if_neg (by simp [h])]
  rfl

theorem newProposal_enters (st : Station) {e : Epoch} (early : StationSet) (h : s.spanHolds e = true)
    (hroom : (s.abandonAsked true).cat.length < 64) :
    s.newProposal st e early =
      { ({ s.abandonAsked true with cat := (s.abandonAsked true).cat ++ [newEntry e st s.settings.askLimit early] } : State).raise .epochAsked
          (.epoch e) (some (.proposer st)) with latest := some e } := by
  unfold State.newProposal State.enterProposal
  rw [if_pos h, if_pos (show _ < Config.catalogueSlots from hroom), abandonAsked_settings]

theorem newProposal_full (st : Station) {e : Epoch} (early : StationSet) (h : s.spanHolds e = true)
    (hfull : 64 ≤ (s.abandonAsked true).cat.length) :
    s.newProposal st e early =
      { (s.abandonAsked true).raise .catalogueFull (.epoch e) (some (.catalogue false)) with latest := some e } := by
  unfold State.newProposal State.enterProposal
  rw [if_pos h, if_neg (show ¬_ < Config.catalogueSlots from Nat.not_lt.2 hfull)]

/-! ### EPOCH-PROPOSE (R101 to R103) -/

theorem exec_epochProposeReceipt {st : Station} {e : Epoch} {rest : List RxNotice} (h : s.receives st (.epochPropose e) rest) :
    exec .epochProposeReceipt s = .next (receiveProposal st e (s.withRecv rest)) := by
  have he : exec .epochProposeReceipt s = .next (s.receive Notice.proposal receiveProposal) := rfl
  rw [he, receive_made h (a := e) rfl]

theorem receiveProposal_newer (st : Station) {e : Epoch} (h : newerThanLatest e s.latest = true) :
    receiveProposal st e s = s.newProposal st e 0#16 :=
  if_pos h

/-- A proposal of the latest epoch, which has its entry, has collided with it (R102). -/
theorem receiveProposal_collides (st : Station) {e : Epoch} (hl : s.latest = some e) (hc : (s.findEpoch e).isSome = true) :
    receiveProposal st e s = s.withdraw fun n => decide (n = .epochPropose e) := by
  unfold receiveProposal
  rw [if_neg (by simp [hl, newerThanLatest, newer_self]), hl]
  exact if_pos ⟨rfl, hc⟩

theorem receiveProposal_stale (st : Station) {e l : Epoch} (hl : s.latest = some l) (hn : newer e l = false)
    (hc : e ≠ l ∨ (s.findEpoch e).isSome = false) : receiveProposal st e s = s.answerStale l := by
  unfold receiveProposal
  rw [if_neg (by simp [hl, newerThanLatest, hn]), hl]
  refine if_neg fun h => ?_
  rcases hc with hne | hnone
  · exact hne h.1
  · rw [h.2] at hnone
    cases hnone

theorem answerStale_queued {l : Epoch} (h : s.out.has (fun n => decide (n = .epochLatest l)) = true) : s.answerStale l = s := if_pos h

/-- The queued EPOCH-LATEST of an older epoch makes way for the answer (R103). -/
theorem answerStale_offers {l : Epoch} (h : s.out.has (fun n => decide (n = .epochLatest l)) = false) {older : Notice → Bool}
    (hnewer : ∀ x, older (.epochLatest x) = newer l x) (hother : ∀ n : Notice, n.announcement = none → older n = false) :
    s.answerStale l = State.offerEpoch (.epochLatest l) (s.withdraw older) := by
  have hsame : older = fun n : Notice => match n.announcement with
      | none => false
      | some x => newer l x := by
    funext n
    cases n with
    | epochLatest x => exact hnewer x
    | _ => exact hother _ rfl
  subst hsame
  exact if_neg (by simp [h])

/-! ### EPOCH-READY (R106, R107) -/

theorem exec_epochReadyReceipt {st : Station} {e : Epoch} {rest : List RxNotice} (h : s.receives st (.epochReady e) rest) :
    exec .epochReadyReceipt s = .next (receiveReady st e (s.withRecv rest)) := by
  have he : exec .epochReadyReceipt s = .next (s.receive Notice.readiness receiveReady) := rfl
  rw [he, receive_made h (a := e) rfl]

theorem heardReady_asked (st : Station) {c : CatEntry} (h : c.state = .asked) :
    heardReady st c = { c with early := c.early.map (addTo st) } := by
  unfold heardReady
  rw [h]

theorem heardReady_other (st : Station) {c : CatEntry} (h : c.state ≠ .asked) :
    heardReady st c = { c with ready := c.ready.map (addTo st) } := by
  unfold heardReady
  split
  · contradiction
  all_goals rfl

/-- An ASKED entry hears its sender early, and stays ASKED (R106, R108). -/
theorem receiveReady_asked (st : Station) {e : Epoch} {c : CatEntry} (hc : s.findEpoch e = some c) (ha : c.state = .asked) :
    receiveReady st e s = s.modifyEpoch e fun c => { c with early := c.early.map (addTo st) } := by
  have hm : s.modifyEpoch e (heardReady st) = s.modifyEpoch e fun c => { c with early := c.early.map (addTo st) } := by
    unfold State.modifyEpoch
    rw [modifyFirst_congr (g := fun c => { c with early := c.early.map (addTo st) }) hc (heardReady_asked st ha)]
  have hfound : (s.modifyEpoch e fun c => { c with early := c.early.map (addTo st) }).findEpoch e =
      some { c with early := c.early.map (addTo st) } :=
    find_modifyFirst hc (by simpa using findEpoch_epoch hc)
  unfold receiveReady
  rw [hc]
  simp only []
  rw [hm, closeTest_other hfound (by simp [ha])]

theorem receiveReady_other (st : Station) {e : Epoch} {c : CatEntry} (hc : s.findEpoch e = some c) (ha : c.state ≠ .asked) :
    receiveReady st e s = (s.modifyEpoch e fun c => { c with ready := c.ready.map (addTo st) }).closeTest e := by
  unfold receiveReady State.modifyEpoch
  rw [hc, modifyFirst_congr (g := fun c => { c with ready := c.ready.map (addTo st) }) hc (heardReady_other st ha)]

theorem receiveReady_newer (st : Station) {e : Epoch} (hn : s.findEpoch e = none) (h : newerThanLatest e s.latest = true) :
    receiveReady st e s = s.newProposal st e (oneStation st) := by
  unfold receiveReady
  rw [hn]
  exact if_pos h

theorem receiveReady_ignored (st : Station) {e : Epoch} (hn : s.findEpoch e = none) (h : newerThanLatest e s.latest = false) :
    receiveReady st e s = s := by
  unfold receiveReady
  rw [hn]
  exact if_neg (by simp [h])

/-! ### EPOCH-LATEST and PRESENCE (R70, R104) -/

theorem exec_epochLatestReceipt {st : Station} {l : Epoch} {rest : List RxNotice} (h : s.receives st (.epochLatest l) rest) :
    exec .epochLatestReceipt s = .next ((s.withRecv rest).hearLatest l) := by
  have he : exec .epochLatestReceipt s = .next (s.receive Notice.announcement fun _ l => State.hearLatest l) := rfl
  rw [he, receive_made h (a := l) rfl]

theorem exec_presenceReceipt {st : Station} {l : Option Epoch} {rest : List RxNotice} (h : s.receives st (.presence l) rest) :
    exec .presenceReceipt s = .next (receivePresence st l (s.withRecv rest)) := by
  have he : exec .presenceReceipt s = .next (s.receive Notice.beacon receivePresence) := rfl
  rw [he, receive_made h (a := l) rfl]

/-- Settles O32: each notice's receipt, by what the station knows of the epoch. -/
theorem receivedEpochNotices : Obligations.ReceivedEpochNotices := by
  refine ⟨fun s st e rest h => ?_, fun s st e rest h => ?_, fun s st rest => ?_⟩
  · have hexec := exec_epochProposeReceipt h
    rw [← withRecv_settings rest s]
    generalize s.withRecv rest = t at hexec
    refine ⟨fun hn hspan => ?_, fun hn hspan hroom => ?_, fun hn hspan hfull => ?_, fun hl hc => ?_,
      fun l hl hn hc => ⟨fun hq => ?_, fun hq => ?_⟩⟩
    · rw [hexec, receiveProposal_newer st hn, newProposal_beyond st _ (spanHolds_eq_false.2 hspan)]
    · rw [hexec, receiveProposal_newer st hn, newProposal_enters st _ (spanHolds_entries.2 hspan) hroom]
      rfl
    · rw [hexec, receiveProposal_newer st hn, newProposal_full st _ (spanHolds_entries.2 hspan) hfull]
    · rw [hexec, receiveProposal_collides st hl hc]
    · rw [hexec, receiveProposal_stale st hl hn hc, answerStale_queued hq]
    · rw [hexec, receiveProposal_stale st hl hn hc]
      refine congrArg _ (answerStale_offers hq (fun _ => rfl) fun n hnone => ?_)
      cases n with
      | epochLatest x => cases hnone
      | _ => rfl
  · have hexec := exec_epochReadyReceipt h
    rw [← withRecv_settings rest s]
    generalize s.withRecv rest = t at hexec
    refine ⟨fun c hc => ⟨fun ha => ?_, fun ha => ?_⟩, fun hnone hn => ?_, fun hnone hn hspan => ?_, fun hnone hn hspan hroom => ?_,
      fun hnone hn hspan hfull => ?_⟩
    · rw [hexec, receiveReady_asked st hc ha]
      rfl
    · rw [hexec, receiveReady_other st hc ha]
      rfl
    · rw [hexec, receiveReady_ignored st hnone hn]
    · rw [hexec, receiveReady_newer st hnone hn, newProposal_beyond st _ (spanHolds_eq_false.2 hspan)]
    · rw [hexec, receiveReady_newer st hnone hn, newProposal_enters st _ (spanHolds_entries.2 hspan) hroom]
      rfl
    · rw [hexec, receiveReady_newer st hnone hn, newProposal_full st _ (spanHolds_entries.2 hspan) hfull]
  · have hlatest := fun l => exec_epochLatestReceipt (s := s) (st := st) (l := l) (rest := rest)
    have hpresence := fun l => exec_presenceReceipt (s := s) (st := st) (l := l) (rest := rest)
    generalize s.withRecv rest = t at hlatest hpresence
    exact ⟨fun l h => hlatest l h, fun l h => hpresence (some l) h, fun h => hpresence none h⟩

/-! ### The close test, the abandonment and the expiries (R100, R108, R110, R111) -/

theorem within_iff {a b : StationSet} : within a b = true ↔ ∀ st : Station, inSet st a = true → inSet st b = true := by
  unfold within inSet
  rw [beq_iff_eq]
  constructor
  · intro h st ha
    have hbit := congrArg (fun x : StationSet => x.getLsbD st.val) h
    simpa [ha, st.isLt] using hbit
  · intro h
    refine BitVec.eq_of_getLsbD_eq fun i hi => ?_
    have hbit := h ⟨i, hi⟩
    simpa [hi] using hbit

theorem closes_iff {c : CatEntry} {required ready : StationSet} (hreq : c.required = some required) (hready : c.ready = some ready) :
    closes c = true ↔ c.state = .ready ∧ ∀ st : Station, inSet st required = true → inSet st ready = true := by
  simp [closes, hreq, hready, setOf, within_iff]

theorem abandonAsked_none {b : Bool} (h : s.askedEntry = none) : s.abandonAsked b = s := by
  unfold State.abandonAsked
  rw [h]

theorem abandonAsked_found {b : Bool} {c : CatEntry} (h : s.askedEntry = some c) :
    s.abandonAsked b =
      if c.proposer = s.station then
        (({ s with cat := s.cat.eraseP fun c => decide (c.state = .asked) } : State).raise .epochAbandoned (.epoch c.epoch)
          (some (.abandoned b))).withdraw fun n => decide (n = .epochPropose c.epoch)
      else
        ({ s with cat := s.cat.eraseP fun c => decide (c.state = .asked) } : State).raise .epochAbandoned (.epoch c.epoch)
          (some (.abandoned b)) := by
  unfold State.abandonAsked
  rw [h]

theorem expireAsk_due {c : CatEntry} (h : s.askedEntry = some c) (h0 : c.timer = some 0) : s.expireAsk = s.abandonAsked false := by
  unfold State.expireAsk
  rw [h]
  exact if_pos h0

theorem expireClose_due {e : Epoch} {c : CatEntry} (h : s.findEpoch e = some c) (hr : c.state = .ready) (h0 : c.timer = some 0) :
    s.expireClose e = (s.modifyEpoch e partialEntry).raise .epochClosed (.epoch e) (some (.closedWhole false)) := by
  unfold State.expireClose
  rw [h]
  exact if_pos ⟨hr, h0⟩

/-- Settles O33: by the close test, the ASKED entry and the timers. -/
theorem entriesCloseAndAreAbandoned : Obligations.EntriesCloseAndAreAbandoned := by
  refine ⟨fun s e c required ready hc hreq hready => ?_, fun s b => ?_, fun s => ⟨fun c hc h0 => ?_, fun e c hc hr h0 => ?_⟩⟩
  · have hcl := closes_iff hreq hready
    refine ⟨fun hr hall => ?_, fun hr hmiss => ?_, fun hr => closeTest_other hc hr⟩
    · exact closeTest_closes hc (hcl.2 ⟨hr, hall⟩)
    · refine closeTest_stays hc (Bool.eq_false_iff.2 fun hclose => ?_)
      obtain ⟨st, hin, hout⟩ := hmiss
      rw [(hcl.1 hclose).2 st hin] at hout
      cases hout
  · refine ⟨fun hn => abandonAsked_none hn, fun c hc => ⟨fun hp => ?_, fun hp => ?_⟩⟩
    · rw [abandonAsked_found hc, if_neg hp]
    · rw [abandonAsked_found hc, if_pos hp]
  · exact congrArg _ (expireAsk_due hc h0)
  · exact congrArg _ (expireClose_due hc hr h0)

end Sys2Proof.Machine
end

section
/-! PROOFS. HOLD (R119, R120), SNAP-EXPIRE (R122 to R124) and the expiry sweep (R126, R127, R129). -/

namespace Sys2Proof.Machine

variable {s : State} {e : Epoch} {c : CatEntry}

/-! ### HOLD (R119, R120) -/

@[simp] theorem granted_holds (s : State) : s.granted.holds = s.settle.holds := by simp only [State.granted]

theorem granted_findEpoch (s : State) (e : Epoch) : s.granted.findEpoch e = s.settle.findEpoch e := by
  simp only [State.granted, State.findEpoch]

/-- HOLD in an epoch without an entry, the checks before passed (R119). -/
theorem holdAccess_noEntry {user n : Nat} {u : UserRec} (h0 : user ≠ 0) (hn : n ≠ 0) (hr : n ≤ Config.maxAU)
    (hu : s.findActive user = some u) (hc : s.findEpoch e = none) :
    holdAccess user e n s = (s, .noSuchEpoch, .hold (s.userBlock user) 0 false 0) := by
  unfold holdAccess
  rw [if_neg (by simp [h0, hn]), if_neg (Nat.not_lt.2 hr), withUser_found h0 hu]
  simp only [hc]

/-- HOLD in an epoch that has an entry: its remaining checks in order (R119). -/
theorem holdAccess_entry {user n : Nat} {u : UserRec} (h0 : user ≠ 0) (hn : n ≠ 0) (hr : n ≤ Config.maxAU)
    (hu : s.findActive user = some u) (hc : s.findEpoch e = some c) :
    let refused := fun x : Status => ((s, x, .hold (s.userBlock user) 0 false 0) : Answer)
    let t := s.applyHold u e n
    holdAccess user e n s =
      if c.state = .asked then refused .wrongState
      else if c.state = .expiring then refused .expiring
      else if u.live < n then refused .range
      else if Config.maxAU < u.held + n ∨ Config.maxAU < c.heldTotal + n then refused .range
      else if s.holds.any (isHold user e) = false ∧ s.freeHolds = 0 then refused .poolFull
      else (t, .ok, .hold (t.userBlock user) (holdUnits user e t.holds) (!s.holds.any (isHold user e)) t.freeHolds) := by
  unfold holdAccess
  rw [if_neg (by simp [h0, hn]), if_neg (Nat.not_lt.2 hr), withUser_found h0 hu]
  simp only [hc]

/-- The Hold Pool is full when the records in use are as many as configured (R117). -/
theorem freeHolds_eq_zero_iff : s.freeHolds = 0 ↔ s.settings.holdRecords ≤ s.holds.length := Nat.sub_eq_zero_iff_le

/-- The changes of an admitted HOLD, field by field: one more hold is counted when the user had none in the epoch (R120). -/
theorem applyHold_eq (u : UserRec) (e : Epoch) (n : Nat) :
    s.applyHold u e n =
      State.commit u { u with live := u.live - n, held := u.held + n }
        { s with
          holds := addHold u.user e n s.holds
          cat := modifyFirst (fun c => c.epoch == e)
            (fun c => { c with
              heldTotal := c.heldTotal + n
              holdCount := c.holdCount + if s.holds.any (isHold u.user e) then 0 else 1 }) s.cat } := by
  have hfresh : (!s.holds.any (isHold u.user e)).toNat = if s.holds.any (isHold u.user e) then 0 else 1 := by
    cases s.holds.any (isHold u.user e) <;> rfl
  simp only [State.applyHold, hfresh]
  rfl

/-- Settles O25, by the checks of HOLD in their order. -/
theorem holdMovesSpaceOrRefuses : Obligations.HoldMovesSpaceOrRefuses := by
  constructor
  · intro s user n e u c hs h0 hn hr hu hc ha hx hlive hheld htotal
    have hexec := fun {t status body} => exec_served (t := t) (status := status) (body := body) hs
    rw [← granted_findActive] at hu
    rw [← granted_findEpoch] at hc
    rw [← granted_holds, ← granted_settings]
    generalize s.granted = v at *
    intro mine existing holds t0 t hroom
    have hfull : ¬(v.holds.any (isHold user e) = false ∧ v.freeHolds = 0) := by
      rintro ⟨hnone, hfree⟩
      rcases hroom with hold | hroom
      · exact Bool.false_ne_true (hnone.symm.trans hold)
      · exact Nat.not_le.2 hroom (freeHolds_eq_zero_iff.1 hfree)
    have hover : ¬(Config.maxAU < u.held + n ∨ Config.maxAU < c.heldTotal + n) := not_or.2 ⟨Nat.not_lt.2 hheld, Nat.not_lt.2 htotal⟩
    obtain rfl := findActive_user hu
    have happly : v.applyHold u e n = t := applyHold_eq u e n
    refine hexec ((holdAccess_entry h0 hn hr hu hc).trans ?_)
    rw [if_neg ha, if_neg hx, if_neg (Nat.not_lt.2 hlive), if_neg hover, if_neg hfull, happly]
    rfl
  · intro s user n e u hs h0 hn hr hu
    have hexec := fun {t status body} => exec_served (t := t) (status := status) (body := body) hs
    rw [← granted_findActive] at hu
    rw [← granted_findEpoch, ← granted_holds, ← granted_settings]
    generalize s.granted = v at *
    intro refused
    refine ⟨fun hc => hexec (holdAccess_noEntry h0 hn hr hu hc), fun c hc => ?_⟩
    have hchecks := holdAccess_entry h0 hn hr hu hc
    refine ⟨fun ha => hexec (hchecks.trans ?_), fun hx => hexec (hchecks.trans ?_), fun ha hx => ⟨fun hlive => hexec (hchecks.trans ?_),
      fun hlive hover => hexec (hchecks.trans ?_), fun hlive hheld htotal hnone hfull => hexec (hchecks.trans ?_)⟩⟩
    · rw [if_pos ha]
    · rw [if_neg (by simp [hx]), if_pos hx]
    · rw [if_neg ha, if_neg hx, if_pos hlive]
    · rw [if_neg ha, if_neg hx, if_neg (Nat.not_lt.2 hlive)]
      exact if_pos hover
    · have hover : ¬(Config.maxAU < u.held + n ∨ Config.maxAU < c.heldTotal + n) := not_or.2 ⟨Nat.not_lt.2 hheld, Nat.not_lt.2 htotal⟩
      rw [if_neg ha, if_neg hx, if_neg (Nat.not_lt.2 hlive), if_neg hover, if_pos ⟨hnone, freeHolds_eq_zero_iff.2 hfull⟩]

/-! ### The checks of SNAP-EXPIRE (R122) -/

theorem exec_snapExpire (h : s.takesRequests) (e : Epoch) (discard : Bool) :
    exec (.snapExpire e discard) s =
      .next (State.answer (snapExpire e discard s.atTaking).2.1 52 false (snapExpire e discard s.atTaking).2.2
        (snapExpire e discard s.atTaking).1) :=
  exec_takenAtOnce (r := .snapExpire e discard) (handle := snapExpire e discard) h.1 (.inl h.2) rfl (by simp)

variable {discard : Bool}

theorem snapExpire_missing (hc : s.findEpoch e = none) :
    snapExpire e discard s = (s, .noSuchEpoch, .snapExpire none 0 false 0) := by
  unfold snapExpire
  rw [hc]

theorem snapExpire_refused {x : Status} (hc : s.findEpoch e = some c) (h : s.expireStatus c discard = x) (hx : x ≠ .ok) :
    snapExpire e discard s = (s, x, .snapExpire (some c) 0 false 0) := by
  unfold snapExpire
  subst h
  rw [hc]
  exact if_neg hx

theorem snapExpire_admitted (hc : s.findEpoch e = some c) (h : s.expireStatus c discard = .ok) :
    snapExpire e discard s =
      (s.beginExpiry e discard, .ok, .snapExpire (some c) c.holdCount (s.holdList e).isEmpty (s.purgeCount e discard)) := by
  unfold snapExpire
  rw [hc]
  exact if_pos h

theorem expireStatus_expiring (h : c.state = .expiring) : s.expireStatus c discard = .expiring := if_pos h

theorem expireStatus_forming (h : c.state = .asked ∨ c.state = .ready) : s.expireStatus c discard = .wrongState := by
  have hx : c.state ≠ .expiring := by rcases h with h | h <;> simp [h]
  unfold State.expireStatus
  rw [if_neg hx, if_pos h]

/-- An entry that is CLOSED or PARTIAL passes to the checks of its pins, its grants, its duplication and the Sweep Engine (R122). -/
theorem expireStatus_closed (h : c.state = .closed ∨ c.state = .closedPartial) :
    s.expireStatus c discard =
      if 0 < c.pins then .pinned
      else if 0 < c.inFlight then .busy
      else if discard = false ∧ (c.dupState = .notQueued ∨ c.dupState = .queued ∨ c.dupState = .ending) then .notOffsite
      else if s.sweep ≠ .idle then .sweepBusy
      else .ok := by
  have hx : c.state ≠ .expiring := by rcases h with h | h <;> simp [h]
  have ho : ¬(c.state = .asked ∨ c.state = .ready) := by rcases h with h | h <;> simp [h]
  unfold State.expireStatus
  rw [if_neg hx, if_neg ho]

/-- An epoch to be discarded, or one whose duplication is over, awaits no duplication (R122). -/
theorem not_awaits_duplication (h : discard = true ∨ c.dupState = .sent ∨ c.dupState = .incomplete ∨ c.dupState = .discarded) :
    ¬(discard = false ∧ (c.dupState = .notQueued ∨ c.dupState = .queued ∨ c.dupState = .ending)) := by
  rcases h with h | h | h | h <;> simp [h]

/-! ### The start and the completion of an expiry sweep (R123, R124, R129) -/

/-- A sweep with holds of its epoch left offers its next step (R124, R126). -/
theorem continueExpiry_waits {swept : Nat} (h : s.holdList e ≠ []) :
    s.continueExpiry e swept = { s with sweep := .expiry e swept true } :=
  if_neg (by simpa using h)

/-- A sweep over an empty hold list completes (R124, R129). -/
theorem continueExpiry_completes {swept : Nat} (h : s.holdList e = []) : s.continueExpiry e swept = s.completeExpiry e swept :=
  if_pos (by simpa using h)

/-- Completion of a sweep that never waited leaves the Sweep Engine idle as it was. -/
theorem completeExpiry_idle {swept : Nat} (h : s.sweep = .idle) :
    s.completeExpiry e swept =
      ({ s with cat := s.cat.eraseP fun c => c.epoch == e } : State).raise .expiryDone (.epoch e) (some (.number swept)) := by
  unfold State.completeExpiry
  rw [← h]
  rfl

/-- The duplication queue after the purge of an epoch with discard, and unchanged without (R123). -/
def Dup.discards (e : Epoch) (discard : Bool) (d : Dup) : Dup :=
  if discard then { d with queue := d.queue.filter fun q => !q.names e } else d

/-- The entry as an admitted SNAP-EXPIRE leaves it (R123, R124). -/
def CatEntry.expires (discard : Bool) (c : CatEntry) : CatEntry :=
  if discard then { c with queuedCount := 0, dupState := .discarded, state := .expiring } else { c with state := .expiring }

/-- The changes of an admitted SNAP-EXPIRE before its sweep (R123, R124): the purge and the change of state touch one entry, once. -/
theorem expiring_eq (s : State) (e : Epoch) (discard : Bool) :
    ((if discard then s.purge e else s).modifyEpoch e fun c => { c with state := .expiring }) =
      { s with dup := s.dup.discards e discard, cat := modifyFirst (fun c => c.epoch == e) (CatEntry.expires discard) s.cat } := by
  cases discard with
  | false => rfl
  | true =>
    simp only [if_true, State.purge, State.modifyEpoch]
    rw [modifyFirst_comp]
    · rfl
    · exact fun _ => rfl

/-- An admitted SNAP-EXPIRE of an epoch with holds: its sweep offers a step (R124). -/
theorem beginExpiry_waits (hl : s.holdList e ≠ []) :
    s.beginExpiry e discard =
      { s with
        dup := s.dup.discards e discard
        cat := modifyFirst (fun c => c.epoch == e) (CatEntry.expires discard) s.cat
        sweep := .expiry e 0 true } := by
  unfold State.beginExpiry
  rw [expiring_eq]
  exact continueExpiry_waits hl

/-- An admitted SNAP-EXPIRE of an epoch without holds: its entry leaves at once (R124, R129). -/
theorem beginExpiry_completes (hs : s.sweep = .idle) (hl : s.holdList e = []) :
    s.beginExpiry e discard =
      ({ s with dup := s.dup.discards e discard, cat := s.cat.eraseP fun c => c.epoch == e } : State).raise .expiryDone (.epoch e)
        (some (.number 0)) := by
  have hepoch : ∀ c : CatEntry, (CatEntry.expires discard c).epoch = c.epoch := fun c => by cases discard <;> rfl
  have herase := eraseP_modifyFirst (p := fun c => c.epoch == e) s.cat fun c => congrArg (· == e) (hepoch c)
  unfold State.beginExpiry
  rw [expiring_eq, continueExpiry_completes (by exact hl), completeExpiry_idle (by exact hs), herase]

/-! ### The expiry sweep step (R127) -/

/-- A step that waits is served when no client of classes 1 and 2 waits (R14). -/
theorem exec_expirySweepStep {swept : Nat} (hf : s.servesClass3) (hs : s.sweep = .expiry e swept true) :
    exec .expirySweepStep s = .next (s.settle.expiryStep e swept) := by
  have he : exec .expirySweepStep s = .next s.serveExpiryStep := rfl
  have hserve : s.serveExpiryStep = s.settle.expiryStep e swept := by
    unfold State.serveExpiryStep
    simp only [settle_sweep, hs]
    exact if_pos hf
  rw [he, hserve]

/-- A step frees the head of the hold list, and the sweep goes on from there (R127). -/
theorem expiryStep_head {swept : Nat} {h : Hold} {more : List Hold} (hl : s.holdList e = h :: more) :
    s.expiryStep e swept = (s.releaseHold h).continueExpiry e (swept + 1) := by
  unfold State.expiryStep
  rw [hl]

/-- The freeing of a hold record whose user is there (R127). -/
theorem releaseHold_found {h : Hold} {u : UserRec} (hu : s.findUser h.user = some u) :
    s.releaseHold h =
      State.commit u { u with held := u.held - h.units }
        { s with
          holds := s.holds.eraseP (isHold h.user h.epoch)
          cat := modifyFirst (fun c => c.epoch == h.epoch)
            (fun c => { c with heldTotal := c.heldTotal - h.units, holdCount := c.holdCount - 1 }) s.cat } := by
  have hu' : s.users.find? (fun r => r.user == h.user) = some u := hu
  simp only [State.releaseHold, State.findUser, State.modifyEpoch, hu']

/-- The record freed for the head of an epoch's hold list is the head itself, and the rest of the list stays (R118, R127). -/
theorem filter_eraseP_head {l more : List Hold} {h : Hold} (hl : l.filter (fun g => g.epoch == e) = h :: more) :
    (l.eraseP (isHold h.user h.epoch)).filter (fun g => g.epoch == e) = more := by
  have he : h.epoch = e := by
    have hmem : h ∈ l.filter fun g => g.epoch == e := hl ▸ List.mem_cons_self
    simpa using (List.mem_filter.1 hmem).2
  have hp : (fun g : Hold => isHold h.user h.epoch g && g.epoch == e) = isHold h.user h.epoch := by
    funext g
    simp [isHold, he]
  calc (l.eraseP (isHold h.user h.epoch)).filter (fun g => g.epoch == e)
      = (l.filter fun g => g.epoch == e).eraseP (isHold h.user h.epoch) := by rw [List.eraseP_filter, hp]
    _ = more := by rw [hl, List.eraseP_cons_of_pos (by simp [isHold])]

/-- Settles O26: SNAP-EXPIRE by its checks and the hold list of its epoch, and the step by what is left of that list. -/
theorem snapExpireSweepsTheEpochsHolds : Obligations.SnapExpireSweepsTheEpochsHolds := by
  refine ⟨fun s e discard hs => ?_, fun s e discard c hs hc hclosed hpins hflight hoff hidle => ?_,
    fun s e swept h more u hf hs hl hu => ?_⟩
  · have hexec := exec_snapExpire hs e discard
    rw [← atTaking_sweep s]
    generalize s.atTaking = v at hexec ⊢
    refine ⟨fun hc => by rw [hexec, snapExpire_missing hc], fun c hc => ?_⟩
    intro refused
    have hrefused : ∀ x : Status, v.expireStatus c discard = x → x ≠ .ok → refused x := fun x h hx => by
      simp only [refused, hexec, snapExpire_refused hc h hx]
    refine ⟨fun hx => hrefused _ (expireStatus_expiring hx) nofun, fun ho => hrefused _ (expireStatus_forming ho) nofun, fun hclosed => ?_⟩
    have hchecks := expireStatus_closed (s := v) (discard := discard) hclosed
    refine ⟨fun hp => hrefused _ (hchecks.trans ?_) nofun, fun hp hf => hrefused _ (hchecks.trans ?_) nofun,
      fun hp hf hd hw => hrefused _ (hchecks.trans ?_) nofun, fun hp hf hd hw => hrefused _ (hchecks.trans ?_) nofun⟩
    · rw [if_pos hp]
    · rw [if_neg (by omega), if_pos hf]
    · rw [if_neg (by omega), if_neg (by omega), if_pos ⟨hd, hw⟩]
    · rw [if_neg (by omega), if_neg (by omega), if_neg (not_awaits_duplication hd), if_pos hw]
  · have hexec := exec_snapExpire hs e discard
    rw [← atTaking_sweep] at hidle
    rw [← atTaking_holds s]
    generalize s.atTaking = v at hexec hc hidle ⊢
    intro t named purged dup entry
    have hok : v.expireStatus c discard = .ok := by
      rw [expireStatus_closed hclosed, if_neg (by omega), if_neg (by omega), if_neg (not_awaits_duplication hoff), if_neg (not_not.2 hidle)]
    rw [hexec, snapExpire_admitted hc hok]
    refine ⟨fun hl => ?_, fun hl => ?_⟩
    · have hlist : v.holdList e = [] := hl
      rw [beginExpiry_completes hidle hlist, hlist]
      rfl
    · have hlist : v.holdList e ≠ [] := hl
      rw [beginExpiry_waits hlist, List.isEmpty_eq_false_iff.2 hlist]
      rfl
  · have hexec := exec_expirySweepStep hf hs
    rw [← settle_holds s] at hl ⊢
    generalize s.settle = v at hexec hl hu ⊢
    intro t0 t
    have hrelease : v.releaseHold h = t := releaseHold_found hu
    have hrest : t.holdList e = more := filter_eraseP_head hl
    rw [hexec, expiryStep_head hl, hrelease]
    refine ⟨fun hmore => ?_, fun hmore => ?_⟩
    · rw [continueExpiry_waits (by rwa [hrest])]
    · rw [continueExpiry_completes (hrest.trans hmore)]
      rfl

end Sys2Proof.Machine
end

section
/-! PROOFS. The restores: RESTORE-BEGIN (R134 to R136), RESTORE-PROGRESS and RESTORE-END (R137 to R140), and the idle
timeout (R141 to R143). -/

namespace Sys2Proof.Machine

variable {s : State}

/-! ### Job slots (R133, R134) -/

/-- The grant takes nothing from the Restore Table. -/
theorem granted_jobSlot (s : State) (i : Fin 8) : s.granted.jobSlot i = s.settle.jobSlot i := by
  simp only [State.granted, State.jobSlot]

/-- The lowest slot without a job is the one a restore takes (R134). -/
theorem freeSlot_eq_some {i : Fin 8} (hi : (s.jobSlot i).job = none) (hlow : ∀ k, k < i → (s.jobSlot k).job.isSome = true) :
    s.freeSlot = some i := by
  refine lowestSlot_some ?_ fun k hk => ?_
  · simp [State.slotFree, hi]
  · simpa [State.slotFree] using hlow k hk

/-- With a job in every slot no slot is free (R134). -/
theorem freeSlot_eq_none (h : ∀ i, (s.jobSlot i).job.isSome = true) : s.freeSlot = none :=
  lowestSlot_none fun i => by simpa [State.slotFree] using h i

/-! ### RESTORE-BEGIN (R135, R136) -/

section Begin

variable {user n : Nat} {e : Epoch} {u : UserRec} {c : CatEntry}

/-- RESTORE-BEGIN in an epoch without an entry, the checks before passed (R135). -/
theorem restoreBeginAccess_noEntry (h0 : user ≠ 0) (hn : n ≠ 0) (hr : n ≤ Config.maxRestore) (hu : s.findActive user = some u)
    (hc : s.findEpoch e = none) :
    restoreBeginAccess user e n s = (s, .noSuchEpoch, .restoreBegin (s.userBlock user) none none) := by
  unfold restoreBeginAccess
  rw [if_neg (by simp [h0, hn]), if_neg (Nat.not_lt.2 hr), withUser_found h0 hu]
  simp only [hc]

/-- The outcome of the admission of a restore, its slot found (R136). -/
def State.admitRestore (user : Nat) (e : Epoch) (n : Nat) (u : UserRec) (i : Fin 8) (s : State) : Answer :=
  let status := admission s.settings.heldWeight n true u
  let t := if status.admits then s.beginJob i u e n else s
  (t, status, .restoreBegin (t.userBlock user) (some (tested s.settings.heldWeight n u))
    (if status.admits then some (handleOf i ((s.jobSlot i).gen + 1)) else none))

/-- RESTORE-BEGIN in an epoch that has an entry: its remaining checks in order, the admission last (R135, R136). -/
theorem restoreBeginAccess_entry (h0 : user ≠ 0) (hn : n ≠ 0) (hr : n ≤ Config.maxRestore) (hu : s.findActive user = some u)
    (hc : s.findEpoch e = some c) :
    let refused := fun x : Status => ((s, x, .restoreBegin (s.userBlock user) none none) : Answer)
    restoreBeginAccess user e n s =
      if c.state = .asked ∨ c.state = .ready then refused .wrongState
      else if c.state = .expiring then refused .expiring
      else s.freeSlot.elim (refused .jobsFull) fun i => s.admitRestore user e n u i := by
  unfold restoreBeginAccess
  rw [if_neg (by simp [h0, hn]), if_neg (Nat.not_lt.2 hr), withUser_found h0 hu]
  simp only [hc]
  cases s.freeSlot <;> rfl

/-- In an epoch that is CLOSED or PARTIAL a free slot decides whether the admission is made (R135, R136). -/
theorem restoreBeginAccess_closed (h0 : user ≠ 0) (hn : n ≠ 0) (hr : n ≤ Config.maxRestore) (hu : s.findActive user = some u)
    (hc : s.findEpoch e = some c) (hclosed : c.state = .closed ∨ c.state = .closedPartial) :
    restoreBeginAccess user e n s =
      s.freeSlot.elim (s, .jobsFull, .restoreBegin (s.userBlock user) none none) fun i => s.admitRestore user e n u i := by
  have hforming : ¬(c.state = .asked ∨ c.state = .ready) := by rcases hclosed with h | h <;> simp [h]
  have hexpiring : c.state ≠ .expiring := by rcases hclosed with h | h <;> simp [h]
  refine (restoreBeginAccess_entry h0 hn hr hu hc).trans ?_
  rw [if_neg hforming, if_neg hexpiring]

/-- A restore that the admission refuses changes nothing, and its reply carries E′ (R136). -/
theorem admitRestore_refused {i : Fin 8} (h : (admission s.settings.heldWeight n true u).admits ≠ true) :
    s.admitRestore user e n u i =
      (s, admission s.settings.heldWeight n true u,
        .restoreBegin (s.userBlock user) (some (tested s.settings.heldWeight n u)) none) := by
  simp [State.admitRestore, h]

/-- An admitted restore begins its job, and its reply carries the job's handle (R136). -/
theorem admitRestore_admitted {i : Fin 8} (h : (admission s.settings.heldWeight n true u).admits = true) :
    let t := s.beginJob i u e n
    s.admitRestore user e n u i =
      (t, admission s.settings.heldWeight n true u,
        .restoreBegin (t.userBlock user) (some (tested s.settings.heldWeight n u)) (some (handleOf i ((s.jobSlot i).gen + 1)))) := by
  simp [State.admitRestore, h]

end Begin

/-- Settles O27, by the checks of RESTORE-BEGIN in their order. -/
theorem restoreBeginReservesAndPins : Obligations.RestoreBeginReservesAndPins := by
  intro s user n e u hs h0 hn hr hu
  have hexec := fun {t status body} => exec_served (t := t) (status := status) (body := body) hs
  rw [← granted_findActive] at hu
  simp -zeta only [← granted_findEpoch, ← granted_jobSlot, ← granted_settings s]
  generalize s.granted = v at *
  intro a refused e' status
  refine ⟨fun hc => hexec (restoreBeginAccess_noEntry h0 hn hr hu hc), fun c hc => ?_⟩
  have hchecks := restoreBeginAccess_entry h0 hn hr hu hc
  refine ⟨fun hforming => hexec (hchecks.trans ?_), fun hexpiring => hexec (hchecks.trans ?_), fun hclosed => ?_⟩
  · rw [if_pos hforming]
  · rw [if_neg (by simp [hexpiring]), if_pos hexpiring]
  · have hslot := restoreBeginAccess_closed h0 hn hr hu hc hclosed
    refine ⟨fun hfull => hexec (hslot.trans ?_), fun i hi hlow => ?_⟩
    · rw [freeSlot_eq_none hfull, Option.elim_none]
    · rw [freeSlot_eq_some hi hlow, Option.elim_some] at hslot
      refine ⟨fun hok hsoft => hexec (hslot.trans (admitRestore_refused fun ha => ?_)),
        fun hadmits => hexec (hslot.trans (admitRestore_admitted (admits_iff.2 hadmits)))⟩
      exact (admits_iff.1 ha).elim hok hsoft

/-! ### The job's user (R139) -/

/-- A job's user whose record is there and not RETIRING has the change made (R139). -/
theorem changeJobUser_found {user : Nat} {u : UserRec} (f : UserRec → UserRec) (hu : s.findActive user = some u) :
    s.changeJobUser user f = s.commit u (f u) := by
  unfold State.changeJobUser
  rw [hu]

/-- A job's user whose record has left or is RETIRING has no change made (R139). -/
theorem changeJobUser_left {user : Nat} (f : UserRec → UserRec) (hu : s.findActive user = none) : s.changeJobUser user f = s := by
  unfold State.changeJobUser
  rw [hu]

/-- The block A of a job's user, by whether the record is there (R139, log 44). -/
theorem jobUserBlock_eq (s : State) (user : Nat) :
    s.jobUserBlock user = if (s.findActive user).isSome then s.userBlock user else noUser user := by
  unfold State.jobUserBlock
  cases s.findActive user <;> rfl

/-! ### RESTORE-PROGRESS and RESTORE-END (R137, R138, R140) -/

section Job

variable {handle k : Nat} {j : Job}

theorem restoreProgressAccess_zero : restoreProgressAccess handle 0 s = (s, .badRequest, .empty) := if_pos rfl

/-- A count above its range is refused before the handle is looked at (R137). -/
theorem restoreProgressAccess_range (hk : Config.maxRestore < k) :
    restoreProgressAccess handle k s = (s, .range, .restoreProgress (noUser 0) 0 0 0) := by
  unfold restoreProgressAccess
  rw [if_neg (Nat.ne_zero_of_lt hk), if_pos hk]

/-- A handle that no slot and generation can spell (R134). -/
theorem restoreProgressAccess_handle (hk : k ≤ Config.maxRestore) (hh : 63 < handle) :
    restoreProgressAccess handle k s = (s, .badRequest, .empty) := by
  unfold restoreProgressAccess
  rw [if_neg (Nat.not_lt.2 hk), if_pos hh, ite_self]

/-- An unknown handle, the count and the handle in range (R134, R137). -/
theorem restoreProgressAccess_noJob (h0 : k ≠ 0) (hk : k ≤ Config.maxRestore) (hh : handle ≤ 63) (hj : s.jobOf handle = none) :
    restoreProgressAccess handle k s = (s, .noSuchHandle, .restoreProgress (noUser 0) 0 0 0) := by
  unfold restoreProgressAccess
  rw [if_neg h0, if_neg (Nat.not_lt.2 hk), if_neg (Nat.not_lt.2 hh), hj]

/-- The progress of an ACTIVE job (R137, R138). -/
theorem restoreProgressAccess_job (h0 : k ≠ 0) (hk : k ≤ Config.maxRestore) (hh : handle ≤ 63) (hj : s.jobOf handle = some j) :
    let moved := min k j.remaining
    let t := s.progressJob (handleSlot handle) j moved
    restoreProgressAccess handle k s =
      (t, if k ≤ j.remaining then .ok else .replyPartial,
        .restoreProgress (t.jobUserBlock j.user) moved (j.remaining - moved) (j.moved + moved)) := by
  unfold restoreProgressAccess
  rw [if_neg h0, if_neg (Nat.not_lt.2 hk), if_neg (Nat.not_lt.2 hh), hj]

theorem restoreEndAccess_handle (hh : 63 < handle) : restoreEndAccess handle s = (s, .badRequest, .empty) := if_pos hh

theorem restoreEndAccess_noJob (hh : handle ≤ 63) (hj : s.jobOf handle = none) :
    restoreEndAccess handle s = (s, .noSuchHandle, .restoreEnd (noUser 0) 0 0) := by
  unfold restoreEndAccess
  rw [if_neg (Nat.not_lt.2 hh), hj]

/-- The end of an ACTIVE job on request (R140). -/
theorem restoreEndAccess_job (hh : handle ≤ 63) (hj : s.jobOf handle = some j) :
    let t := s.endJob (handleSlot handle) j
    restoreEndAccess handle s = (t, .ok, .restoreEnd (t.jobUserBlock j.user) j.moved j.remaining) := by
  unfold restoreEndAccess
  rw [if_neg (Nat.not_lt.2 hh), hj]

end Job

/-- Settles O28: the end of a job and its progress by whether the job's user is there, and the two requests by their checks. -/
theorem restoreProgressEndsAndReleases : Obligations.RestoreProgressEndsAndReleases := by
  refine ⟨fun s i j => ?_, fun s handle k => ?_⟩
  · intro freed
    exact ⟨fun u hu => changeJobUser_found (s := freed) _ hu, fun hu => changeJobUser_left (s := freed) _ hu⟩
  · have hexec := fun {a t status body} (hs : s.served a) => exec_served (t := t) (status := status) (body := body) hs
    simp -zeta only [← granted_jobSlot]
    generalize s.granted = v at *
    intro slot job none3 block
    have hblock : ∀ (t : State) (user : Nat), t.jobUserBlock user = block t user := jobUserBlock_eq
    have hjob : v.jobOf handle = job := rfl
    refine ⟨fun hs => ?_, fun hs => ?_⟩
    · intro answers
      refine ⟨fun hbad => ?_, fun hrange => hexec hs (restoreProgressAccess_range hrange),
        fun h0 hk hh => ⟨fun hnone => ?_, fun j hj => ?_⟩⟩
      · rcases hbad with rfl | ⟨hk, hh⟩
        · exact hexec hs restoreProgressAccess_zero
        · exact hexec hs (restoreProgressAccess_handle hk hh)
      · exact hexec hs (restoreProgressAccess_noJob h0 hk hh (hjob.trans hnone))
      · intro moved progressed t0 status
        have hanswer := hexec hs (restoreProgressAccess_job h0 hk hh (hjob.trans hj))
        simp only [hblock] at hanswer
        refine ⟨fun u hu => ?_, fun hu => ?_⟩
        · have hprogress : v.progressJob slot j moved = _ := changeJobUser_found (s := t0) _ hu
          exact hprogress ▸ hanswer
        · have hprogress : v.progressJob slot j moved = t0 := changeJobUser_left (s := t0) _ hu
          exact hprogress ▸ hanswer
    · intro answers
      refine ⟨fun hh => hexec hs (restoreEndAccess_handle hh), fun hh hnone => ?_, fun j hh hj => ?_⟩
      · exact hexec hs (restoreEndAccess_noJob hh (hjob.trans hnone))
      · have hanswer := hexec hs (restoreEndAccess_job hh (hjob.trans hj))
        simp only [hblock] at hanswer
        exact hanswer

/-! ### The idle timeout (R141 to R143) -/

/-- The release at the head of class 1 is served (R14, R142). -/
theorem exec_idleTimeoutRelease_head {i gen : Fin 8} {rest : List Client} (h : s.settle.class1 = .idleRelease i gen :: rest) :
    exec .idleTimeoutRelease s = .next (State.idleRelease i gen { s.settle with class1 := rest }) := by
  have he : exec .idleTimeoutRelease s = .next s.serveIdleRelease := rfl
  rw [he]
  unfold State.serveIdleRelease
  simp only [h]

section Release

variable {i gen : Fin 8} {j : Job}

/-- The job that a release names has the release's generation (R142). -/
theorem releaseJob_found (hg : (s.jobSlot i).gen = gen) (hj : (s.jobSlot i).job = some j) : s.releaseJob i gen = some j :=
  (if_pos hg).trans hj

/-- A release names no job once its slot is FREE or of another generation (R142). -/
theorem releaseJob_eq_none (h : (s.jobSlot i).gen ≠ gen ∨ (s.jobSlot i).job = none) : s.releaseJob i gen = none := by
  unfold State.releaseJob
  rcases h with hg | hj
  · exact if_neg hg
  · rw [hj, ite_self]

/-- A release without its job changes nothing (R142). -/
theorem idleRelease_stale (h : s.releaseJob i gen = none) : s.idleRelease i gen = s := by
  unfold State.idleRelease
  rw [h]

/-- A job still at the limit times out (R143). -/
theorem idleRelease_timesOut (h : s.releaseJob i gen = some j) (hidle : s.settings.idleLimit ≤ j.idle) :
    s.idleRelease i gen = (s.endJob i j).raise .restoreTimeout (.handle (handleOf i gen)) (some (.number j.moved)) := by
  unfold State.idleRelease
  rw [h]
  exact if_pos hidle

/-- A job progressed meanwhile has its release waiting cleared (R142). -/
theorem idleRelease_progressed (h : s.releaseJob i gen = some j) (hidle : j.idle < s.settings.idleLimit) :
    s.idleRelease i gen = s.setJob i { gen := gen, job := some { j with releaseWaiting := false } } := by
  unfold State.idleRelease
  rw [h]
  exact if_neg (Nat.not_le.2 hidle)

end Release

/-- Settles O29: the offer of the lowest slot due, and the release by the job it names. -/
theorem idleJobsTimeOut : Obligations.IdleJobsTimeOut := by
  refine ⟨fun s slot j hj hw hidle hlow => ?_, fun s i gen rest hhead => ?_⟩
  · rw [exec_idleLimitReached_lowest hlow, offerRelease_of_due hj (idleDue_iff.2 ⟨j, hj, hw, hidle⟩)]
    rfl
  · rw [exec_idleTimeoutRelease_head hhead, ← settle_settings s]
    generalize s.settle = v
    intro t
    refine ⟨fun j hg hj hidle => ?_, fun j hg hj hidle => ?_, fun h => ?_⟩
    · exact congrArg _ (idleRelease_timesOut (releaseJob_found hg hj) hidle)
    · exact congrArg _ (idleRelease_progressed (releaseJob_found hg hj) hidle)
    · exact congrArg _ (idleRelease_stale (releaseJob_eq_none h))

end Sys2Proof.Machine
end

section
/-! PROOFS. The queueing of duplication work: DUP-EXTENT, DUP-END and DUP-HALT (R149, R151 to R154). -/

namespace Sys2Proof.Machine

variable {s : State} {e : Epoch} {c : CatEntry} {token : Token} {units : Nat}

/-! ### The checks on an entry (R151) -/

theorem queueStatus_forming (h : c.state = .asked ∨ c.state = .ready ∨ c.state = .expiring) : queueStatus c = .wrongState := if_pos h

/-- An entry that is CLOSED or PARTIAL is neither forming nor expiring (R96, R98). -/
theorem not_forming_of_closed (h : c.state = .closed ∨ c.state = .closedPartial) :
    ¬(c.state = .asked ∨ c.state = .ready ∨ c.state = .expiring) := by
  rcases h with h | h <;> simp [h]

/-- An epoch with its END queued or granted, or with its duplication over, takes no more work (R151). -/
theorem queueStatus_ended (h : c.state = .closed ∨ c.state = .closedPartial)
    (hd : c.dupState = .ending ∨ c.dupState = .sent ∨ c.dupState = .incomplete) : queueStatus c = .epochEnded := by
  unfold queueStatus
  rw [if_neg (not_forming_of_closed h)]
  rcases hd with hd | hd | hd <;> rw [hd]

theorem queueStatus_discarded (h : c.state = .closed ∨ c.state = .closedPartial) (hd : c.dupState = .discarded) :
    queueStatus c = .wrongState := by
  unfold queueStatus
  rw [if_neg (not_forming_of_closed h), hd]

theorem queueStatus_open (h : c.state = .closed ∨ c.state = .closedPartial) (hd : c.dupState = .notQueued ∨ c.dupState = .queued) :
    queueStatus c = .ok := by
  unfold queueStatus
  rw [if_neg (not_forming_of_closed h)]
  rcases hd with hd | hd <;> rw [hd]

/-! ### DUP-EXTENT (R151, R152) -/

theorem exec_dupExtent (h : s.takesRequests) (e : Epoch) (token : Token) (units : Nat) :
    exec (.dupExtent e token units) s =
      .next (State.answer (dupExtent e token units s.atTaking).2.1 80 false (dupExtent e token units s.atTaking).2.2
        (dupExtent e token units s.atTaking).1) :=
  exec_takenAtOnce (r := .dupExtent e token units) (handle := dupExtent e token units) h.1 (.inl h.2) rfl (by simp)

theorem dupExtent_zero : dupExtent e token 0 s = (s, .badRequest, .empty) := if_pos rfl

theorem dupExtent_range (h : Config.maxExtent < units) :
    dupExtent e token units s = (s, .range, s.queueReply e none false) := by
  unfold dupExtent
  rw [if_neg (by omega), if_pos h]

theorem dupExtent_missing (h0 : 1 ≤ units) (hr : units ≤ Config.maxExtent) (hc : s.findEpoch e = none) :
    dupExtent e token units s = (s, .noSuchEpoch, s.queueReply e none false) := by
  unfold dupExtent
  rw [if_neg (by omega), if_neg (Nat.not_lt.2 hr), hc]

/-- An extent of an epoch with an entry passes to the checks of that entry and of the queue (R151, R152). -/
theorem dupExtent_entry (h0 : 1 ≤ units) (hr : units ≤ Config.maxExtent) (hc : s.findEpoch e = some c) :
    dupExtent e token units s =
      if queueStatus c ≠ .ok then (s, queueStatus c, s.queueReply e none false)
      else if s.dup.queue.any (isExtent e token) then
        (s.absorbExtent e token units, .ok, (s.absorbExtent e token units).queueReply e
          ((s.absorbExtent e token units).dup.queue.find? (isExtent e token)) true)
      else if s.freeDups = 0 then (s, .queueFull, s.queueReply e none false)
      else
        (s.appendExtent e token units, .ok, (s.appendExtent e token units).queueReply e
          (some { work := .extent e token units, parity := s.dup.nextParity, retries := 0 }) false) := by
  have hlast : (s.appendExtent e token units).dup.queue.getLast? =
      some { work := .extent e token units, parity := s.dup.nextParity, retries := 0 } := List.getLast?_concat
  unfold dupExtent
  rw [if_neg (by omega), if_neg (Nat.not_lt.2 hr), hc, ← hlast]

/-- An entry that fails its checks refuses the extent with the status they give (R151). -/
theorem dupExtent_refused {x : Status} (h0 : 1 ≤ units) (hr : units ≤ Config.maxExtent) (hc : s.findEpoch e = some c)
    (hx : queueStatus c = x) (hok : x ≠ .ok) : dupExtent e token units s = (s, x, s.queueReply e none false) := by
  subst hx
  rw [dupExtent_entry h0 hr hc, if_pos hok]

/-! ### DUP-END (R153) -/

theorem exec_dupEnd (h : s.takesRequests) (e : Epoch) :
    exec (.dupEnd e) s = .next (State.answer (dupEnd e s.atTaking).2.1 81 false (dupEnd e s.atTaking).2.2 (dupEnd e s.atTaking).1) :=
  exec_takenAtOnce (r := .dupEnd e) (handle := dupEnd e) h.1 (.inl h.2) rfl (by simp)

theorem dupEnd_missing (hc : s.findEpoch e = none) : dupEnd e s = (s, .noSuchEpoch, s.queueReply e none false) := by
  unfold dupEnd
  rw [hc]

/-- The END of an epoch with an entry passes to the checks of that entry and of the queue (R153). -/
theorem dupEnd_entry (hc : s.findEpoch e = some c) :
    dupEnd e s =
      if queueStatus c ≠ .ok then (s, queueStatus c, s.queueReply e none false)
      else if s.freeDups = 0 then (s, .queueFull, s.queueReply e none false)
      else
        (s.appendEnd e, .ok, (s.appendEnd e).queueReply e
          (some { work := .endMark e, parity := s.dup.nextParity, retries := 0 }) false) := by
  have hlast : (s.appendEnd e).dup.queue.getLast? = some { work := .endMark e, parity := s.dup.nextParity, retries := 0 } :=
    List.getLast?_concat
  unfold dupEnd
  rw [hc, ← hlast]

/-- An entry that fails its checks refuses the END with the status they give (R153). -/
theorem dupEnd_refused {x : Status} (hc : s.findEpoch e = some c) (hx : queueStatus c = x) (hok : x ≠ .ok) :
    dupEnd e s = (s, x, s.queueReply e none false) := by
  subst hx
  rw [dupEnd_entry hc, if_pos hok]

/-! ### DUP-HALT (R154) -/

theorem exec_dupHalt (h : s.takesRequests) :
    exec .dupHalt s = .next (State.answer (dupHalt s.atTaking).2.1 82 false (dupHalt s.atTaking).2.2 (dupHalt s.atTaking).1) :=
  exec_takenAtOnce (r := .dupHalt) (handle := dupHalt) h.1 (.inl h.2) rfl (by simp)

theorem dupHalt_full (h : s.freeDups = 0) : dupHalt s = (s, .queueFull, .dupHalt 0) := by
  unfold dupHalt
  rw [if_pos h, h]

theorem dupHalt_queued (h : s.freeDups ≠ 0) :
    dupHalt s =
      ({ s with dup := s.dup.append .halt }, .ok, .dupHalt ({ s with dup := s.dup.append .halt } : State).freeDups) := if_neg h

/-- Settles O41: DUP-EXTENT and DUP-END by the entry of their epoch and the room in the queue, DUP-HALT by the room alone. -/
theorem duplicationWorkIsQueued : Obligations.DuplicationWorkIsQueued := by
  refine ⟨fun s e token units hs => ?_, fun s e hs => ?_⟩
  · have hexec := exec_dupExtent hs e token units
    generalize s.atTaking = t at hexec
    intro v answers refused same
    have hanswers : ∀ {x : Status} {body : ReplyBody} {u : State}, dupExtent e token units t = (u, x, body) → answers x body u :=
      fun h => by rw [h] at hexec; exact hexec
    refine ⟨fun h0 => hanswers (h0 ▸ dupExtent_zero), fun hr => hanswers (dupExtent_range hr), fun h0 hr =>
      ⟨fun hc => hanswers (dupExtent_missing h0 hr hc), fun c hc => ?_⟩⟩
    have hrefused : ∀ {x : Status}, queueStatus c = x → x ≠ .ok → refused x := fun hx hok =>
      hanswers (dupExtent_refused h0 hr hc hx hok)
    refine ⟨fun hf => hrefused (queueStatus_forming hf) nofun, fun hclosed => ⟨fun hd => hrefused (queueStatus_ended hclosed hd) nofun,
      fun hd => hrefused (queueStatus_discarded hclosed hd) nofun, fun hd => ?_⟩⟩
    have hchecks := dupExtent_entry (token := token) h0 hr hc
    rw [if_neg (not_not.2 (queueStatus_open hclosed hd))] at hchecks
    exact ⟨fun ha => hanswers (hchecks.trans (if_pos ha)),
      fun ha hfull => hanswers (hchecks.trans ((if_neg (Bool.eq_false_iff.1 ha)).trans (if_pos hfull))),
      fun ha hroom => hanswers (hchecks.trans ((if_neg (Bool.eq_false_iff.1 ha)).trans (if_neg hroom)))⟩
  · have hend := exec_dupEnd hs e
    have hhalt := exec_dupHalt hs
    generalize s.atTaking = t at hend hhalt
    intro v refused added halted
    have hrefused : ∀ {x : Status}, dupEnd e t = (t, x, t.queueReply e none false) → refused x := fun h => by
      rw [h] at hend; exact hend
    refine ⟨fun hc => hrefused (dupEnd_missing hc), fun c hc => ⟨fun hf => hrefused (dupEnd_refused hc (queueStatus_forming hf) nofun),
      fun hclosed => ⟨fun hd => hrefused (dupEnd_refused hc (queueStatus_ended hclosed hd) nofun),
        fun hd => hrefused (dupEnd_refused hc (queueStatus_discarded hclosed hd) nofun), fun hd hfull => hrefused ?_,
        fun hd hroom => ?_⟩⟩, fun hfull => ?_, fun hroom => ?_⟩
    · rw [dupEnd_entry hc, if_neg (not_not.2 (queueStatus_open hclosed hd)), if_pos hfull]
    · rw [hend, dupEnd_entry hc, if_neg (not_not.2 (queueStatus_open hclosed hd)), if_neg hroom]
      rfl
    · rw [hhalt, dupHalt_full hfull]
    · rw [hhalt, dupHalt_queued hroom]
      rfl

end Sys2Proof.Machine
end

section
/-! PROOFS. The window: WINDOW-OPEN, WINDOW-CLOSE and the limit (R149, R155 to R161). -/

namespace Sys2Proof.Machine

variable {s : State}

/-! ### The entries of tonight (R149) -/

/-- While the window is open, an entry is of tonight by its parity alone (R149). -/
theorem isTonight_of_open {d : Dup} (h : d.window.isSome = true) : d.isTonight = fun q => q.parity == d.night.getLsbD 0 := by
  funext q
  simp only [Dup.isTonight, Dup.tonightParity, h, Bool.true_and]

theorem tonight_of_open {d : Dup} (h : d.window.isSome = true) : d.tonight = d.queue.filter fun q => q.parity == d.night.getLsbD 0 :=
  congrArg d.queue.filter (isTonight_of_open h)

/-- While the window is closed, no entry is of tonight (R149). -/
theorem tonight_of_closed {d : Dup} (h : d.window = none) : d.tonight = [] := by
  simp [Dup.tonight, Dup.isTonight, h]

/-! ### WINDOW-OPEN (R155, R159, R161) -/

theorem exec_windowOpen (h : s.takesRequests) :
    exec .windowOpen s =
      .next (State.answer (windowOpen s.atTaking).2.1 83 false (windowOpen s.atTaking).2.2 (windowOpen s.atTaking).1) :=
  exec_takenAtOnce (r := .windowOpen) (handle := windowOpen) h.1 (.inl h.2) rfl (by simp)

theorem windowOpen_open (h : s.dup.window.isSome = true) : windowOpen s = (s, .wrongState, .windowOpen none 0 0 0) := if_pos h

theorem windowOpen_closed (h : s.dup.window = none) :
    windowOpen s =
      (s.openWindow, .ok,
        .windowOpen (some s.openWindow.dup.night) s.openWindow.dup.backlog s.openWindow.dup.share s.openWindow.dup.tonight.length) := by
  unfold windowOpen
  rw [if_neg (by simp [h])]

/-- The backlog sums the units of the entries that the advanced night makes tonight's (R155, R158). -/
theorem opened_backlog (limit : Nat) (d : Dup) :
    (d.opened limit).backlog =
      ((d.queue.filter fun q => q.parity == (d.night + 1).getLsbD 0).map fun q => q.work.units).sum := by
  unfold Dup.backlog
  rw [dupUnits_eq, tonight_of_open rfl]
  rfl

/-! ### The closing of the window (R156, R157, R160) -/

theorem exec_windowClose (h : s.takesRequests) :
    exec .windowClose s =
      .next (State.answer (windowClose s.atTaking).2.1 84 false (windowClose s.atTaking).2.2 (windowClose s.atTaking).1) :=
  exec_takenAtOnce (r := .windowClose) (handle := windowClose) h.1 (.inl h.2) rfl (by simp)

theorem windowClose_open (h : s.dup.window.isSome = true) :
    windowClose s = (s.closeWindow .request, .ok, .windowClose s.dup.tonight.length) := if_pos h

theorem windowClose_closed (h : s.dup.window = none) : windowClose s = (s, .wrongState, .windowClose 0) := by
  unfold windowClose
  rw [if_neg (by simp [h])]

/-- The closing of an open window re-marks the entries of tonight's parity and tells their number (R157). -/
theorem closeWindow_of_open (why : CloseReason) (h : s.dup.window.isSome = true) :
    s.closeWindow why =
      State.raise .windowClosed (.station s.station)
        (some (.window why (s.dup.queue.filter fun q => q.parity == s.dup.night.getLsbD 0).length))
        (State.offerShare 0 { s with dup := { s.dup with
          queue := s.dup.queue.map fun q => if q.parity == s.dup.night.getLsbD 0 then { q with parity := !s.dup.night.getLsbD 0 } else q
          window := none, share := 0, frameBudget := 0, remaining := 0 } }) := by
  unfold State.closeWindow Dup.closed
  rw [tonight_of_open h, isTonight_of_open h]
  rfl

/-- Settles O42: each request by whether the window is open, and the limit by its timer at 0. -/
theorem windowOpensAndCloses : Obligations.WindowOpensAndCloses := by
  refine ⟨fun s hs => ?_, fun s => ?_⟩
  · have hexec := exec_windowOpen hs
    rw [← atTaking_settings s, ← atTaking_peerTotal s]
    generalize s.atTaking = v at hexec
    intro t night tonight b share opened
    refine ⟨fun ho => by rw [hexec, windowOpen_open ho], fun hc => ?_⟩
    have hb : (v.dup.opened v.settings.windowLimit).backlog = b := opened_backlog _ _
    have hopen : v.openWindow = opened.offerShare b := by
      unfold State.openWindow
      simp only []
      rw [hb]
      rfl
    have hbacklog : v.openWindow.dup.backlog = b := hb
    rw [hexec, windowOpen_closed hc, hbacklog, hopen, tonight_of_open (d := (opened.offerShare b).dup) rfl]
    rfl
  · intro closed
    refine ⟨fun hs ho => ?_, fun hs hc => ?_, fun hl => ?_⟩
    · rw [exec_windowClose hs, windowClose_open ho, closeWindow_of_open .request ho, tonight_of_open ho]
    · rw [exec_windowClose hs, windowClose_closed hc]
    · have hlimit : exec .windowLimitExpiry s = .next (s.closeWindow .limit) := congrArg _ (if_pos hl)
      rw [hlimit, closeWindow_of_open .limit (by rw [hl]; rfl)]

end Sys2Proof.Machine
end

section
/-! PROOFS. The grants: GRANT-TAKE, GRANT-DONE and the return of an entry (R162 to R168). -/

namespace Sys2Proof.Machine

variable {s : State}

/-! ### Works and grant slots (R162) -/

/-- The epoch that a work names is changed without regard to the Duplication Unit. -/
theorem modifyWorkEpoch_setDup (w : DupWork) (f : CatEntry → CatEntry) (d : Dup) :
    ({ s with dup := d } : State).modifyWorkEpoch w f = { s.modifyWorkEpoch w f with dup := d } := by
  cases w <;> rfl

theorem freeGrant_eq_some {i : Fin 8} (hi : (s.grantSlot i).grant = none) (hlow : ∀ k, k < i → (s.grantSlot k).grant.isSome = true) :
    s.freeGrant = some i :=
  lowestSlot_some (by simp [hi]) fun k hk => by simpa using hlow k hk

theorem freeGrant_eq_none (h : ∀ i, (s.grantSlot i).grant.isSome = true) : s.freeGrant = none :=
  lowestSlot_none fun i => by simpa using h i

/-! ### GRANT-TAKE (R163 to R165) -/

theorem exec_grantTake (h : s.takesRequests) :
    exec .grantTake s = .next (State.answer (grantTake s.atTaking).2.1 85 false (grantTake s.atTaking).2.2 (grantTake s.atTaking).1) :=
  exec_takenAtOnce (r := .grantTake) (handle := grantTake) h.1 (.inl h.2) rfl (by simp)

theorem grantTake_closed (h : s.dup.window = none) : grantTake s = (s, .noGrant, s.takeReply (some .closed) 0 none) := by
  unfold grantTake
  rw [if_pos (by simp [h])]

theorem grantTake_full (hw : s.dup.window.isSome = true) (hf : s.freeGrant = none) :
    grantTake s = (s, .noGrant, s.takeReply (some .grantsFull) 0 none) := by
  unfold grantTake
  rw [if_neg (Bool.eq_false_iff.1 (Option.isNone_eq_false_iff.2 hw)), hf]

section Take

variable {i : Fin 8} {q : DupEntry} {rest : List DupEntry}

theorem grantTake_empty (hw : s.dup.window.isSome = true) (hf : s.freeGrant = some i) (ht : s.dup.tonight = []) :
    grantTake s = (s, .noGrant, s.takeReply (some .empty) 0 none) := by
  unfold grantTake
  rw [if_neg (Bool.eq_false_iff.1 (Option.isNone_eq_false_iff.2 hw)), hf]
  exact if_pos (List.isEmpty_iff.2 ht)

/-- With a slot free and entries of tonight, the head of the queue is taken: a HALT, or work to be granted (R163). -/
theorem grantTake_head (hw : s.dup.window.isSome = true) (hf : s.freeGrant = some i) (ht : s.dup.tonight ≠ [])
    (hq : s.dup.queue = q :: rest) : grantTake s = if q.work = .halt then takeHalt rest s else grantHead i q rest s := by
  unfold grantTake
  rw [if_neg (Bool.eq_false_iff.1 (Option.isNone_eq_false_iff.2 hw)), hf]
  simp only []
  rw [if_neg (by simpa using ht), hq]

/-- The reply to a HALT: the window it closed has no budget and no entry of tonight (R157, R163). -/
theorem closeWindow_takeReply (why : CloseReason) (carried : Nat) (s : State) :
    (s.closeWindow why).takeReply none carried none = .grantTake none 0 0 s.dup.debt 0 carried none := by
  unfold State.takeReply
  rw [tonight_of_closed (d := (s.closeWindow why).dup) rfl]
  rfl

theorem takeHalt_eq (rest : List DupEntry) (s : State) :
    takeHalt rest s =
      (({ s with dup := { s.dup with queue := rest } } : State).closeWindow .halt, .halted,
        .grantTake none 0 0 s.dup.debt 0 ({ s with dup := { s.dup with queue := rest } } : State).dup.tonight.length none) := by
  unfold takeHalt
  simp only [closeWindow_takeReply]

theorem grantHead_waits {e : Epoch} (hq : q.work = .endMark e) (h : 0 < ((s.findEpoch e).map CatEntry.inFlight).getD 0) :
    grantHead i q rest s = (s, .noGrant, s.takeReply (some .order) 0 none) := by
  unfold grantHead
  rw [hq]
  exact if_pos h

/-- A granted entry with the budget and debt `d` it leaves, and its reply (R164, R165). -/
def takenHead (i : Fin 8) (q : DupEntry) (rest : List DupEntry) (d : Dup) (s : State) : Answer :=
  (s.grant i q rest d, .ok,
    (s.grant i q rest d).takeReply none 0 (some (handleOf i ((s.grantSlot i).gen + 1), q.work, q.retries)))

theorem grantHead_endMark {e : Epoch} (hq : q.work = .endMark e) (h : ((s.findEpoch e).map CatEntry.inFlight).getD 0 = 0) :
    grantHead i q rest s = takenHead i q rest s.dup s := by
  unfold grantHead takenHead
  rw [hq]
  exact if_neg (show ¬0 < _ from h ▸ Nat.lt_irrefl 0)

theorem grantHead_refused {e : Epoch} {token : Token} {units : Nat} (hq : q.work = .extent e token units)
    (h : s.dup.charge units = none) : grantHead i q rest s = (s, .noGrant, s.takeReply (some .budget) 0 none) := by
  unfold grantHead
  rw [hq]
  simp only [h]

theorem grantHead_charged {e : Epoch} {token : Token} {units : Nat} {d : Dup} (hq : q.work = .extent e token units)
    (h : s.dup.charge units = some d) : grantHead i q rest s = takenHead i q rest d s := by
  unfold grantHead takenHead
  rw [hq]
  simp only [h]

end Take

/-! ### The charge of an EXTENT (R164) -/

section Charge

variable {d : Dup} {units : Nat}

theorem charge_within (h : units ≤ d.remaining) : d.charge units = some { d with remaining := d.remaining - units } := if_pos h

theorem charge_overdraws (h : d.remaining < units) (hb : d.remaining = d.frameBudget) (hd : d.debt = 0) (h0 : 0 < d.frameBudget) :
    d.charge units = some { d with debt := units - d.remaining, remaining := 0 } := by
  unfold Dup.charge
  rw [if_neg (Nat.not_le.2 h), if_pos ⟨hb, hd, h0⟩]

theorem charge_refused (h : d.remaining < units) (hb : d.remaining ≠ d.frameBudget ∨ d.debt ≠ 0 ∨ d.frameBudget = 0) :
    d.charge units = none := by
  unfold Dup.charge
  rw [if_neg (Nat.not_le.2 h), if_neg (by omega)]

end Charge

/-- Settles O43: the refusals in their order, then the head of the queue by its work. -/
theorem grantTakeGrantsTheHead : Obligations.GrantTakeGrantsTheHead := by
  intro s hs
  have hexec := exec_grantTake hs
  generalize s.atTaking = v at hexec
  intro t refused
  have hrefused : ∀ {why : NoGrant}, grantTake v = (v, .noGrant, v.takeReply (some why) 0 none) → refused why := fun h => by
    rw [h] at hexec
    exact hexec
  refine ⟨fun hw => hrefused (grantTake_closed hw), fun hw hf => hrefused (grantTake_full hw (freeGrant_eq_none hf)),
    fun i hw hi hlow => ?_⟩
  have hfree := freeGrant_eq_some hi hlow
  refine ⟨fun ht => hrefused (grantTake_empty hw hfree ht), fun q rest ht hq => ?_⟩
  have hhead := grantTake_head hw hfree ht hq
  intro gen granted takes
  have hgrant : ∀ d : Dup, d.grants = v.dup.grants → v.grant i q rest d = granted d := fun d hd => by
    unfold State.grant
    rw [modifyWorkEpoch_setDup, hd]
  have htakes : ∀ {d : Dup}, d.grants = v.dup.grants → grantTake v = takenHead i q rest d v → takes d := fun hd h => by
    rw [h, takenHead, hgrant _ hd] at hexec
    exact hexec
  refine ⟨fun hx => ?_, fun e hx => ?_, fun e token units hx => ?_⟩
  · rw [hexec, hhead, if_pos hx, takeHalt_eq]
  · rw [if_neg (by simp [hx])] at hhead
    exact ⟨fun h => hrefused (hhead.trans (grantHead_waits hx h)), fun h => htakes rfl (hhead.trans (grantHead_endMark hx h))⟩
  · rw [if_neg (by simp [hx])] at hhead
    exact ⟨fun h => htakes rfl (hhead.trans (grantHead_charged hx (charge_within h))),
      fun h hb hd h0 => htakes rfl (hhead.trans (grantHead_charged hx (charge_overdraws h hb hd h0))),
      fun h hb => hrefused (hhead.trans (grantHead_refused hx (charge_refused h hb)))⟩

/-! ### GRANT-DONE (R162, R166, R167) -/

section Done

variable {handle : Nat} {failed : Bool} {g : Grant}

theorem exec_grantDone (h : s.takesRequests) (handle : Nat) (failed : Bool) :
    exec (.grantDone handle failed) s =
      .next (State.answer (grantDone handle failed s.atTaking).2.1 86 false (grantDone handle failed s.atTaking).2.2
        (grantDone handle failed s.atTaking).1) :=
  exec_takenAtOnce (r := .grantDone handle failed) (handle := grantDone handle failed) h.1 (.inl h.2) rfl (by simp)

theorem grantDone_handle (h : 63 < handle) : grantDone handle failed s = (s, .badRequest, .empty) := if_pos h

theorem grantDone_noGrant (h : handle ≤ 63) (hg : s.grantOf handle = none) :
    grantDone handle failed s = (s, .noSuchHandle, .grantDone none 0 none none) := by
  unfold grantDone
  rw [if_neg (Nat.not_lt.2 h), hg]

/-- The reply to the end `how` of a grant that leaves the state `t` (R166, R167). -/
def endedGrant (how : DoneOutcome) (retries : Nat) (g : Grant) (t : State) : Answer :=
  (t, .ok, .grantDone (some how) retries (some g.work) (t.workDupState g.work))

theorem grantDone_succeeded (h : handle ≤ 63) (hg : s.grantOf handle = some g) :
    grantDone handle false s = endedGrant .done 0 g (s.grantSucceeds (handleSlot handle) g) := by
  unfold grantDone
  rw [if_neg (Nat.not_lt.2 h), hg]
  rfl

theorem grantDone_returned (h : handle ≤ 63) (hg : s.grantOf handle = some g) (hr : g.retries < 2) :
    grantDone handle true s =
      endedGrant .returned (g.retries + 1) g ((s.freeGrantSlot (handleSlot handle) g).returnEntry g.work (g.retries + 1)) := by
  unfold grantDone
  rw [if_neg (Nat.not_lt.2 h), hg]
  exact if_pos (Nat.succ_lt_succ hr)

theorem grantDone_dropped (h : handle ≤ 63) (hg : s.grantOf handle = some g) (hr : 2 ≤ g.retries) :
    grantDone handle true s = endedGrant .dropped 0 g (s.grantDropped (handleSlot handle) g) := by
  unfold grantDone
  rw [if_neg (Nat.not_lt.2 h), hg]
  exact if_neg (Nat.not_lt.2 (Nat.succ_le_succ hr))

/-- The slot is freed and its epoch's in-flight count falls, each without regard to the other (R166, R167). -/
theorem freeGrantSlot_eq (i : Fin 8) (g : Grant) (s : State) :
    s.freeGrantSlot i g =
      { s.modifyWorkEpoch g.work (fun c => { c with inFlight := c.inFlight - 1 }) with
        dup := { s.dup with grants := s.dup.grants.set i.val { gen := (s.grantSlot i).gen, grant := none } } } :=
  modifyWorkEpoch_setDup _ _ _

theorem grantSucceeds_extent {e : Epoch} {token : Token} {units : Nat} (i : Fin 8) (hg : g.work = .extent e token units) :
    s.grantSucceeds i g = s.freeGrantSlot i g := by
  unfold State.grantSucceeds
  rw [hg]

theorem grantSucceeds_endMark {e : Epoch} (i : Fin 8) (hg : g.work = .endMark e) :
    s.grantSucceeds i g = (s.freeGrantSlot i g).modifyEpoch e endSent := by
  unfold State.grantSucceeds
  rw [hg]

/-- A third failure of an EXTENT marks its epoch and tells the token (R167). -/
theorem grantDropped_extent {e : Epoch} {token : Token} {units : Nat} (i : Fin 8) (hg : g.work = .extent e token units) :
    s.grantDropped i g =
      ((s.freeGrantSlot i g).modifyEpoch e fun c => { c with failedExtent := true }).raise .dupExtentFailed (.epoch e)
        (some (.token token)) := by
  unfold State.grantDropped
  rw [hg]
  rfl

/-- A third failure of an END leaves its epoch INCOMPLETE (R167). -/
theorem grantDropped_endMark {e : Epoch} (i : Fin 8) (hg : g.work = .endMark e) :
    s.grantDropped i g =
      ((s.freeGrantSlot i g).modifyEpoch e fun c => { c with failedExtent := true, dupState := .incomplete }).raise .dupExtentFailed
        (.epoch e) (some .endMark) := by
  unfold State.grantDropped
  rw [hg]
  rfl

end Done

/-! ### The return of an entry (R168) -/

/-- An entry back at the head of the queue, of tonight while the window is open and of the next night while it is closed (R168). -/
def State.backAtHead (w : DupWork) (retries : Nat) (s : State) : State :=
  State.modifyWorkEpoch w (fun c => { c with queuedCount := c.queuedCount + 1 })
    { s with dup := { s.dup with queue := { work := w, parity := s.dup.returnParity, retries := retries } :: s.dup.queue } }

theorem returnEntry_absorbed {e : Epoch} {token : Token} (units retries : Nat) (h : s.dup.queue.any (isExtent e token) = true) :
    s.returnEntry (.extent e token units) retries = s.absorbExtent e token units := if_pos h

theorem returnEntry_extent {e : Epoch} {token : Token} (units retries : Nat) (h : s.dup.queue.any (isExtent e token) = false) :
    s.returnEntry (.extent e token units) retries = s.backAtHead (.extent e token units) retries := if_neg (Bool.eq_false_iff.1 h)

theorem returnEntry_endMark (e : Epoch) (retries : Nat) (s : State) :
    s.returnEntry (.endMark e) retries = s.backAtHead (.endMark e) retries := rfl

/-- Settles O44: GRANT-DONE by its handle, the outcome, the retries and the work; the return by whether the queue absorbs the entry. -/
theorem grantsEndAndEntriesReturn : Obligations.GrantsEndAndEntriesReturn := by
  refine ⟨fun s handle failed hs => ?_, fun s e token units retries => ?_⟩
  · have hexec := exec_grantDone hs handle failed
    generalize s.atTaking = v at hexec
    intro t slot grant answers
    have hanswers : ∀ {x : Status} {body : ReplyBody} {u : State}, grantDone handle failed v = (u, x, body) → answers x body u :=
      fun h => by rw [h] at hexec; exact hexec
    refine ⟨fun h => hanswers (grantDone_handle h), fun h hg => hanswers (grantDone_noGrant h hg), fun g h hg => ?_⟩
    intro freed after
    have hfreed : v.freeGrantSlot slot g = freed := freeGrantSlot_eq slot g v
    have hafter : ∀ u : State, u.workDupState g.work = after u := fun u => by
      simp only [after]
      cases g.work <;> rfl
    have hends : ∀ {how : DoneOutcome} {retries : Nat} {u : State}, grantDone handle failed v = endedGrant how retries g u →
        answers .ok (.grantDone (some how) retries (some g.work) (after u)) u := fun h => by
      rw [endedGrant, hafter] at h
      exact hanswers h
    refine ⟨fun e token units hf hw => ?_, fun e hf hw => ?_, fun hf hr => ?_, fun e token units hf hr hw => ?_, fun e hf hr hw => ?_⟩
    · have hu := (grantSucceeds_extent slot hw).trans hfreed
      exact hends (hf ▸ (grantDone_succeeded h hg).trans (congrArg _ hu))
    · have hu := hfreed ▸ grantSucceeds_endMark slot hw
      exact hends (hf ▸ (grantDone_succeeded h hg).trans (congrArg _ hu))
    · exact hends (hf ▸ hfreed ▸ grantDone_returned h hg hr)
    · have hu := hfreed ▸ grantDropped_extent slot hw
      exact hends (hf ▸ (grantDone_dropped h hg hr).trans (congrArg _ hu))
    · have hu := hfreed ▸ grantDropped_endMark slot hw
      exact hends (hf ▸ (grantDone_dropped h hg hr).trans (congrArg _ hu))
  · exact ⟨returnEntry_extent units retries, returnEntry_absorbed units retries, returnEntry_endMark e retries s⟩

end Sys2Proof.Machine
end

section
/-! PROOFS. TIMEBASE-RETRY, the fallback and the reference monitor (R172, R173, R175, R176). -/

namespace Sys2Proof.Machine

variable {s : State}

/-! ### Requests before CONFIGURE (R186) -/

/-- A request that waits for CONFIGURE, heard before it: NOT_CONFIGURED, nothing but the link touched (test 6 of R182, R186). -/
theorem exec_notConfigured {r : Request} (h : s.listens) (hrun : s.link.running = false) (hr : r ≠ .nop)
    (ht : r.takenUnconfigured = false) :
    exec r.command s = .next (State.answer .notConfigured r.code false .empty s.afterTransaction) := by
  obtain ⟨⟨hlow, hign⟩, hstart⟩ := h
  rw [exec_command]
  unfold State.endWith State.endTransaction State.admitRequest
  rw [if_neg (by simp [hlow, hign])]
  simp only []
  rw [if_neg (by simp [hstart]), if_neg (by simp), if_neg hr, if_neg (by simp [hrun, ht])]
  rfl

/-! ### TIMEBASE-RETRY (R176) -/

theorem exec_timebaseRetry (h : s.takesRequests) :
    exec .timebaseRetry s =
      .next (State.answer (timebaseRetry s.atTaking).2.1 5 false (timebaseRetry s.atTaking).2.2 (timebaseRetry s.atTaking).1) :=
  exec_takenAtOnce (r := .timebaseRetry) (handle := timebaseRetry) h.1 (.inl h.2) rfl (by simp)

/-- On the reference already, nothing is asked for. -/
theorem timebaseRetry_reference (h : s.tb.source = .reference) :
    timebaseRetry s = (s, .ok, .timebaseRetry .reference s.tb.switchBack s.tb.refPresent s.tb.frame true) := by
  unfold timebaseRetry State.retryReply
  rw [h]

/-- On the internal oscillator the monitor decides: the switch-back becomes pending, or is withdrawn. -/
theorem timebaseRetry_internal (h : s.tb.source = .internal) :
    timebaseRetry s =
      ({ s with tb := { s.tb with switchBack := s.tb.refPresent } }, if s.tb.refPresent then .ok else .noReference,
        .timebaseRetry .internal s.tb.refPresent s.tb.refPresent s.tb.frame false) := by
  unfold timebaseRetry State.retryReply
  simp only [h]

/-- Settles O15: NOT_CONFIGURED before CONFIGURE, else the answer by the source and the monitor, which the taking leaves as they were. -/
theorem timebaseRetrySetsSwitchBack : Obligations.TimebaseRetrySetsSwitchBack := by
  intro s hs
  refine ⟨fun hn => exec_notConfigured (r := .timebaseRetry) hs hn (by simp) rfl, ?_⟩
  rw [← atTaking_tb s]
  refine ⟨fun hrun hsrc => ?_, fun hrun hsrc hp => ?_, fun hrun hsrc hp => ?_⟩
  · rw [exec_timebaseRetry ⟨hs, hrun⟩, timebaseRetry_reference hsrc]
  · rw [exec_timebaseRetry ⟨hs, hrun⟩, timebaseRetry_internal hsrc, hp]
    rfl
  · rw [exec_timebaseRetry ⟨hs, hrun⟩, timebaseRetry_internal hsrc, hp]
    rfl

/-! ### The fallback (R175) -/

section Fallback

variable {count : Nat} {windowFirst : Bool}

/-- The loss of a reference that is counted on: the fallback, and the boundary it may bring (R175). -/
theorem exec_referenceFallback (hsrc : s.tb.source = .reference) (hlow : s.tb.timer ≤ count) (hcount : count < s.frameCycles) :
    exec (.referenceFallback count windowFirst) s =
      .next (if s.frameCycles ≤ count + Config.fallbackAdvance then (s.settle.fallBack count).boundary windowFirst
        else s.settle.fallBack count) :=
  congrArg Host.Outcome.next (if_pos ⟨hsrc, hlow, hcount⟩)

/-- The internal oscillator counts on, so the frame timer expires as ever (R173, R175). -/
theorem exec_frameBoundary_fallBack :
    exec (.frameBoundary windowFirst) (s.fallBack count) = .next ((s.fallBack count).boundary windowFirst) :=
  exec_frameBoundary _ windowFirst (by simp [State.fallBack])

end Fallback

/-! ### The reference monitor, and the source NONE (R172, R173) -/

/-- Only a source other than the reference leaves its absence to the monitor alone (R172). -/
theorem exec_referenceMonitorAbsent (h : s.tb.source ≠ .reference) :
    exec .referenceMonitorAbsent s = .next { s with tb := { s.tb with refPresent := false } } :=
  congrArg Host.Outcome.next (if_neg h)

/-- With the source NONE the frame timer does not run (R173). -/
theorem exec_frameBoundary_unclocked {windowFirst : Bool} (h : s.tb.source = .unclocked) :
    exec (.frameBoundary windowFirst) s = .next s :=
  congrArg Host.Outcome.next (if_pos h)

/-- Settles O54: the fallback by whether its advance reaches the frame's length, then the monitor's two edges and the source NONE. -/
theorem lostReferencesFallBack : Obligations.LostReferencesFallBack := by
  intro s windowFirst
  refine ⟨fun count hsrc hlow hcount => ?_, rfl, exec_referenceMonitorAbsent, exec_frameBoundary_unclocked⟩
  rw [← settle_tb s, ← settle_station s]
  refine ⟨fun (hshort : count + Config.fallbackAdvance < s.frameCycles) => ?_,
    fun (hlong : s.frameCycles ≤ count + Config.fallbackAdvance) => ?_⟩
  · rw [exec_referenceFallback hsrc hlow hcount, if_neg (Nat.not_le.2 hshort)]
    rfl
  · rw [exec_referenceFallback hsrc hlow hcount, if_pos hlong]
    exact exec_frameBoundary_fallBack.symm

end Sys2Proof.Machine
end

section
/-! PROOFS. Request records and notices read back from their bytes and bits (R47, R48, R180, R201, R202). -/

namespace Sys2Proof.Machine

/-! ### Fields that fit (R202) -/

@[simp] theorem fits_epoch (e : Epoch) : fitsBytes 2 e.toNat = true := fits_bits 16 e (by decide)

@[simp] theorem fits_token (t : Token) : fitsBytes 4 t.toNat = true := fits_bits 32 t (by decide)

@[simp] theorem fits_flag (b : Bool) : fitsBytes 1 b.toNat = true := by cases b <;> rfl

@[simp] theorem fits_mode (m : SnapMode) : fitsBytes 1 (modeCode m) = true := by cases m <;> rfl

@[simp] theorem flagOf_toNat (b : Bool) : flagOf b.toNat = some b := by cases b <;> rfl

@[simp] theorem modeOf_modeCode (m : SnapMode) : modeOf (modeCode m) = some m := by cases m <;> rfl

/-! ### Request records (R180, R202) -/

/-- A record has the length that its code gives (R202). -/
theorem recordLength_code (r : Request) : recordLength r.code.toNat = some r.bytes.length := by
  cases r with
  | access a => cases a <;> simp [Request.bytes, Request.fields, Request.code, Access.code, Access.fields, recordLength]
  | _ => simp [Request.bytes, Request.fields, Request.code, recordLength, settingsFields]

theorem settingsAt_fields {c : Settings} (code : Byte) (padding : List Byte) (h : c.wf = true) :
    settingsAt (code :: (settingsFields c ++ padding)) = c := by
  simp only [Settings.wf, Bool.and_eq_true] at h
  simp [settingsAt, settingsFields, fieldAt_cons, fieldAt_skip, fieldAt_here, h]

theorem requestAt_access {a : Access} (padding : List Byte) (h : a.wf = true) :
    requestAt (Access.code a :: (Access.fields a ++ padding)) = some (.access a) := by
  cases a <;> simp only [Access.wf, Bool.and_eq_true] at h <;>
    simp [requestAt, Access.code, Access.fields, epochAt, fieldAt_code, fieldAt_cons, fieldAt_skip, fieldAt_here, h]

/-- The fields of a request read back from its record (R202). -/
theorem requestAt_bytes {r : Request} (padding : List Byte) (h : r.wf = true) : requestAt (r.bytes ++ padding) = some r := by
  cases r with
  | access a => exact requestAt_access padding h
  | configure c => exact congrArg (some ∘ Request.configure) (settingsAt_fields 1 padding h)
  | _ =>
    simp_all [requestAt, Request.bytes, Request.code, Request.fields, Request.wf, epochAt, fieldAt_code, fieldAt_cons, fieldAt_skip,
      fieldAt_here]

/-- A record read back from its bytes, whatever follows them (R180, R202). -/
theorem parseRecord_bytes {r : Request} (padding : List Byte) (h : r.wf = true) : parseRecord (r.bytes ++ padding) = .request r := by
  have hlong : ¬(r.bytes ++ padding).length < r.bytes.length := by simp
  have hread := requestAt_bytes padding h
  have hcode := recordLength_code r
  rw [Request.bytes, List.cons_append] at *
  unfold parseRecord
  simp only [hcode, if_neg hlong, hread]

/-! ### Notices (R47, R48, R201) -/

theorem frameOf_priority (st : Station) (n : Notice) : (frameOf st n).priority.toNat = n.priority := by cases n <;> rfl

theorem frameOf_kind (st : Station) (n : Notice) : (frameOf st n).kind.toNat = n.code := by cases n <;> rfl

/-- A check sampled undisturbed is the one that was sent (R48). -/
theorem frameOf_checkPasses (st : Station) (n : Notice) : checkPasses (frameOf st n) = true := by
  unfold checkPasses
  rw [frameOf_priority, frameOf_kind, beq_iff_eq]
  simp only [frameOf]

theorem frameOf_wellFormed {n : Notice} (st : Station) (h : n.wf = true) : noticeWellFormed (frameOf st n) n = true := by
  unfold noticeWellFormed
  rw [frameOf_priority, beq_self_eq_true]
  cases n with
  | usage user units =>
    obtain ⟨-, hunits⟩ := Bool.and_eq_true_iff.1 h
    exact hunits
  | _ => rfl

/-- A notice has the payload bytes that its kind gives (R201). -/
theorem payloadBytes_code (st : Station) (n : Notice) : payloadBytes (frameOf st n).kind = some n.payload.length := by
  unfold payloadBytes
  rw [frameOf_kind]
  cases n with
  | presence latest => cases latest <;> rfl
  | _ => rfl

theorem frameOf_wf (st : Station) (n : Notice) : (frameOf st n).wf = true := by
  unfold SampledFrame.wf
  rw [payloadBytes_code]
  exact beq_self_eq_true _

/-- A notice read back from its own kind and payload (R201). -/
theorem readNotice_frameOf {n : Notice} (st : Station) (h : n.wf = true) :
    readNotice (frameOf st n).kind (frameOf st n).payload = some n := by
  have hfour : ∀ x ≤ Config.maxAU, fitsBytes 4 x = true := fun x hx => decide_eq_true (Nat.lt_of_le_of_lt hx (by decide))
  have hpayload : (frameOf st n).payload = n.payload := rfl
  unfold readNotice
  rw [frameOf_kind, hpayload]
  cases n with
  | share backlog => exact congrArg (some ∘ Notice.share) (fieldAt_last h)
  | usage user units =>
    simp only [Notice.wf, Bool.and_eq_true, decide_eq_true_eq] at h
    simp [Notice.code, Notice.payload, fieldAt_here, fieldAt_skip, fieldAt_last, h, hfour]
  | presence latest =>
    cases latest with
    | none => rfl
    | some e =>
      have hflag := fieldAt_here (v := 1) (bytesOf 2 e.toNat) (show fitsBytes 1 1 = true from rfl)
      simp [Notice.code, Notice.payload, hflag, fieldAt_skip, fieldAt_last]
  | _ => simp [Notice.code, Notice.payload, fieldAt_last]

/-- Settles O6: the samples by their number and by their octets, a request by its record's code, length and fields, a notice by its frame. -/
theorem requestRecordsAndNoticesReadBack : Obligations.RequestRecordsAndNoticesReadBack :=
  ⟨bitsOf_numberOfBits, fun bytes _ h => octets_shifted bytes h, fun _ padding h => parseRecord_bytes padding h,
    fun st n h => ⟨frameOf_checkPasses st n, frameOf_wellFormed st h, frameOf_wf st n, readNotice_frameOf st h⟩⟩

end Sys2Proof.Machine
end

section
/-! PROOFS. Power, RESET and the transactions of the Local Link: what LDO carries, how a transaction's bytes are judged, and which requests
are taken (R180 to R187, R191). -/

namespace Sys2Proof.Machine

variable {s : State}

/-! ### Power and RESET (R187, R191) -/

/-- What a reset leaves: the power-on values, whatever the board's inputs and the commands that wait (R191). -/
theorem powerOn_atPowerOnValues (low : Bool) (station : Station) (refclk ignored : Bool) (queue : List Instr) :
    State.atPowerOnValues { State.powerOn low station refclk with ignored := ignored, pending := queue } := by
  unfold State.atPowerOnValues
  and_intros <;> rfl

/-- Settles O4: both resets write the power-on values, and the release is made by whether RESET is low. -/
theorem powerOnResetAndStrapsFollowTheirRules : Obligations.PowerOnResetAndStrapsFollowTheirRules := by
  refine ⟨fun s => ⟨fun refclk => ?_, ?_⟩, fun s straps => ⟨fun h => ?_, fun h => ?_⟩⟩
  · exact ⟨s.applyPower refclk, rfl, powerOn_atPowerOnValues _ _ _ _ _, rfl, rfl, rfl, rfl⟩
  · exact ⟨s.holdReset, rfl, powerOn_atPowerOnValues _ _ _ _ _, rfl, rfl, rfl, rfl⟩
  · exact congrArg Host.Outcome.next (if_pos h)
  · exact congrArg Host.Outcome.next (if_neg (Bool.eq_false_iff.1 h))

/-! ### The link's edges (R181, R184) -/

section Edges

variable {l : Link} {x : Txn}

theorem start_idle (h : l.txn = none) :
    l.start = { l with txn := some { out := l.reply, eighthEdge := false, requestAtStart := l.inProgress.isSome } } := by
  unfold Link.start
  rw [h]

/-- A transaction that has begun goes on (R181). -/
theorem start_begun (h : l.txn = some x) : l.start = l := by
  unfold Link.start
  rw [h]

theorem deliver_first (h : l.txn = some x) (he : x.eighthEdge = false) :
    l.deliver = { l with reply := if x.out.isSome then none else l.reply, txn := some { x with eighthEdge := true } } := by
  unfold Link.deliver
  simp only [h, he, Bool.false_eq_true, if_false]

/-- A reply is delivered once (R181). -/
theorem deliver_again (h : l.txn = some x) (he : x.eighthEdge = true) : l.deliver = l := by
  unfold Link.deliver
  simp only [h, he, if_true]

@[simp] theorem deliver_inProgress (l : Link) : l.deliver.inProgress = l.inProgress := by
  unfold Link.deliver
  split
  · rfl
  · split <;> rfl

/-- The end of a transaction without a whole byte leaves the rest of the link (R182). -/
theorem start_finish (l : Link) : l.start.finish = { l with txn := none } := by
  unfold Link.start Link.finish
  split <;> rfl

@[simp] theorem overrun_txn (l : Link) : l.overrun.txn = l.txn := by
  unfold Link.overrun
  split <;> rfl

/-- The mark on a request in progress (R184). -/
@[simp] theorem overrun_inProgress (l : Link) : l.overrun.inProgress = l.inProgress.map fun p => { p with mark := true } := by
  unfold Link.overrun
  cases l.inProgress <;> rfl

/-- A reply still to be formed leaves the pending one unmarked (R184). -/
theorem overrun_reply_forming (h : l.inProgress.isSome = true) : l.overrun.reply = l.reply := by
  obtain ⟨p, hp⟩ := Option.isSome_iff_exists.1 h
  unfold Link.overrun
  rw [hp]

/-- The mark on a reply already pending (R184). -/
theorem overrun_reply_formed (h : l.inProgress = none) : l.overrun.reply = l.reply.map fun q => { q with mark := true } := by
  unfold Link.overrun
  rw [h]

end Edges

/-! ### LDO (R180, R181, R191) -/

section Ldo

variable {x : Txn}

theorem ldoByte_reset (h : s.resetLow = true) (i : Nat) : s.ldoByte i = 0 := if_pos h

theorem ldoByte_reply {r : Reply} (h : s.resetLow = false) (hx : s.link.txn = some x) (hr : x.out = some r) (i : Nat) :
    s.ldoByte i = r.bytes.getD i 0 := by
  unfold State.ldoByte
  simp only [h, hx, hr, Bool.false_eq_true, if_false]

theorem ldoByte_none (h : s.resetLow = false) (hx : s.link.txn = some x) (hr : x.out = none) (i : Nat) :
    s.ldoByte i = if i = 0 then noneByte else 0 := by
  unfold State.ldoByte
  simp only [h, hx, hr, Bool.false_eq_true, if_false]

/-- Each byte leaves most significant bit first (R180). -/
theorem ldoBit_eq (i : Nat) {k : Nat} (hk : k < 8) : s.ldoBit (8 * i + k) = (s.ldoByte i).getLsbD (7 - k) := by
  have hbyte : (8 * i + k) / 8 = i := by omega
  have hbit : (8 * i + k) % 8 = k := by omega
  unfold State.ldoBit
  rw [hbyte, hbit, BitVec.getMsbD, decide_eq_true hk, Bool.true_and]

end Ldo

/-- Settles O5: the two edges by whether a transaction has begun and its reply is delivered, and LDO by what the transaction shifts out. -/
theorem repliesAreChosenShiftedAndDelivered : Obligations.RepliesAreChosenShiftedAndDelivered := by
  refine ⟨fun s ⟨hlow, hign⟩ => ?_, fun s => ⟨fun hlow hign => ?_, fun hign => ?_⟩,
    fun s => ⟨fun x r hlow hx hr => ⟨fun i hi => ?_, fun i hi => ?_⟩, fun x hlow hx hr => ⟨?_, fun i hi => ?_⟩, ldoByte_reset,
      fun i k => ldoBit_eq i⟩⟩
  · have hstart : exec .transactionStart s = .next { s with link := s.link.start } :=
      congrArg Host.Outcome.next ((if_neg (Bool.eq_false_iff.1 hign)).trans (if_neg (Bool.eq_false_iff.1 hlow)))
    have hdeliver : exec .replyDelivered s = .next { s with link := s.link.deliver } :=
      congrArg Host.Outcome.next (if_neg (Bool.eq_false_iff.1 hlow))
    rw [hstart, hdeliver]
    exact ⟨fun h => by rw [start_idle h], fun x hx he => by rw [deliver_first hx he], fun x hx he => by rw [deliver_again hx he]⟩
  · exact congrArg Host.Outcome.next ((if_neg (Bool.eq_false_iff.1 hign)).trans (if_pos hlow))
  · exact congrArg Host.Outcome.next (if_pos hign)
  · rw [ldoByte_reply hlow hx hr, List.getD_eq_getElem _ _ hi, List.getElem?_eq_getElem hi]
  · rw [ldoByte_reply hlow hx hr, List.getD_eq_default _ _ hi]
  · rw [ldoByte_none hlow hx hr]
    rfl
  · rw [ldoByte_none hlow hx hr, if_neg (Nat.pos_iff_ne_zero.1 hi)]

/-! ### The rise of LSEL (R182, R184) -/

section Rise

variable {take : Request → State → State}

/-- The rise of LSEL after whole bytes and a tail of samples that fills no byte (R180, R182). -/
theorem exec_clocked (bytes : List Byte) {tail : List Bool} (h : tail.length < 8) :
    exec (.clocked (shiftedBits bytes ++ tail)) s = .next (s.endTransaction (parseRecord bytes) (!tail.isEmpty) handOver) := by
  have hread : octets (bitsOf (shiftedBits bytes ++ tail).length (numberOfBits (shiftedBits bytes ++ tail))) = (bytes, !tail.isEmpty) := by
    rw [bitsOf_numberOfBits, octets_shifted bytes h]
  exact congrArg (fun o => Host.Outcome.next (s.endTransaction (parseRecord o.1) o.2 handOver)) hread

/-- A request's command is a transaction of that request, whole (R182, R183). -/
theorem exec_command_eq_endTransaction (r : Request) :
    exec r.command s = .next (s.endTransaction (.request r) false handOver) := exec_command s r

/-- A rise of LSEL that is not judged (R191). -/
theorem endTransaction_unheard (h : s.resetLow = true ∨ s.ignored = true) (record : Record) (trailing : Bool) :
    s.endTransaction record trailing take = { s with ignored := false } := if_pos (by simpa using h)

theorem endTransaction_noByte (h : s.hears) (trailing : Bool) :
    s.endTransaction .noByte trailing take = { s with link := { s.link with txn := none } } := by
  obtain ⟨hlow, hign⟩ := h
  rw [← start_finish]
  exact if_neg (by simp [hlow, hign])

theorem endTransaction_short (h : s.hears) (trailing : Bool) : s.endTransaction .short trailing take = s.afterTransaction := by
  obtain ⟨hlow, hign⟩ := h
  exact if_neg (by simp [hlow, hign])

/-- Bytes that spell no request, or one that a partial byte follows (tests 2 and 3 of R182). -/
theorem endTransaction_malformed (h : s.listens) (code : Byte) (trailing : Bool) :
    s.endTransaction (.malformed code) trailing take = State.answer .badRequest code false .empty s.afterTransaction := by
  obtain ⟨⟨hlow, hign⟩, hstart⟩ := h
  exact (if_neg (by simp [hlow, hign])).trans (if_neg (by simp [hstart]))

theorem endTransaction_partial (h : s.listens) (r : Request) :
    s.endTransaction (.request r) true take = State.answer .badRequest r.code false .empty s.afterTransaction := by
  obtain ⟨⟨hlow, hign⟩, hstart⟩ := h
  exact (if_neg (by simp [hlow, hign])).trans ((if_neg (by simp [hstart])).trans (if_pos rfl))

/-- A NOP is taken by no block, in every station state and over a request in progress alike (R185). -/
theorem endTransaction_nop (h : s.hears) : s.endTransaction (.request .nop) false take = s.afterTransaction := by
  obtain ⟨hlow, hign⟩ := h
  exact (if_neg (by simp [hlow, hign])).trans ((if_neg (by simp)).trans ((if_neg Bool.false_ne_true).trans (if_pos rfl)))

/-- The state at the rise of LSEL after an overrun: the mark is set, and nothing else is done (R184). -/
def State.overrun (s : State) : State := { s with link := s.link.start.deliver.finish.overrun }

theorem endTransaction_malformed_overrun (h : s.hears) (hstart : s.link.start.requestAtStart = true) (code : Byte) (trailing : Bool) :
    s.endTransaction (.malformed code) trailing take = s.overrun := by
  obtain ⟨hlow, hign⟩ := h
  exact (if_neg (by simp [hlow, hign])).trans (if_pos hstart)

theorem endTransaction_request_overrun (h : s.hears) (hstart : s.link.start.requestAtStart = true) {r : Request} {trailing : Bool}
    (hr : trailing = true ∨ r ≠ .nop) : s.endTransaction (.request r) trailing take = s.overrun := by
  obtain ⟨hlow, hign⟩ := h
  exact (if_neg (by simp [hlow, hign])).trans (if_pos (by simpa [hstart, or_comm, imp_iff_not_or] using hr))

end Rise

/-- Settles O7: the bytes of a request read back to it, a rise that is not judged, and the tests of R182 in their order. -/
theorem transactionBytesAreJudgedByTheTests : Obligations.TransactionBytesAreJudgedByTheTests := by
  refine ⟨fun s r padding hr => ?_, fun s h => ⟨fun edges ldi => ?_, fun r => ?_⟩, fun s bytes tail hs ht => ?_⟩
  · have hclocked := exec_clocked (s := s) (r.bytes ++ padding) (tail := []) (by simp)
    rw [List.append_nil, parseRecord_bytes padding hr] at hclocked
    exact hclocked.trans (exec_command_eq_endTransaction r).symm
  · exact congrArg Host.Outcome.next (endTransaction_unheard h _ _)
  · rw [exec_command_eq_endTransaction, endTransaction_unheard h]
  · have hclocked := exec_clocked (s := s) bytes ht
    intro ends
    refine ⟨fun hbytes => ?_, fun hshort => ?_, fun code hl hbad => ?_, fun r hl hreq htail => ?_⟩
    · subst hbytes
      exact hclocked.trans (congrArg _ (endTransaction_noByte hs _))
    · rw [hshort, endTransaction_short hs] at hclocked
      exact hclocked
    · rw [hbad, endTransaction_malformed hl] at hclocked
      exact hclocked
    · rw [hreq, show (!tail.isEmpty) = true by simpa using htail, endTransaction_partial hl] at hclocked
      exact hclocked

/-- Settles O8: every overrun ends in `State.overrun`, whose link is read part by part. -/
theorem overrunsAreDiscardedAndMarked : Obligations.OverrunsAreDiscardedAndMarked := by
  intro s x hs hx hstart discarded
  have hbegun := start_begun hx
  have hrequest : s.link.start.requestAtStart = true := by
    rw [hbegun]
    unfold Link.requestAtStart
    rw [hx]
    exact hstart
  have hends : ∀ {c : Instr}, exec c s = .next s.overrun → discarded c := by
    intro c hc
    refine ⟨s.overrun, hc, rfl, ?_⟩
    have hlink : s.overrun.link = s.link.deliver.finish.overrun := congrArg (fun l => l.deliver.finish.overrun) hbegun
    have hprogress : s.link.deliver.finish.inProgress = s.link.inProgress := deliver_inProgress _
    rw [hlink]
    refine ⟨by simp, overrun_txn _, by rw [overrun_inProgress, hprogress], fun h => ?_, fun h => ?_⟩
    · exact overrun_reply_formed (hprogress.trans h)
    · exact overrun_reply_forming (by rwa [hprogress])
  refine ⟨fun r hr => hends ?_, fun bytes tail ht => ⟨fun code hbad => hends ?_, fun r hreq hr => hends ?_⟩⟩
  · rw [exec_command_eq_endTransaction, endTransaction_request_overrun hs hrequest (.inr hr)]
  · rw [exec_clocked bytes ht, hbad, endTransaction_malformed_overrun hs hrequest]
  · rw [exec_clocked bytes ht, hreq, endTransaction_request_overrun hs hrequest (by simpa using hr)]

/-! ### The requests that are taken (R182, R183, R185, R186) -/

/-- Settles O9: NOP by the order of the tests, and the requests that wait for CONFIGURE by the last of them. -/
theorem nopAndUnconfiguredStationsTakeNothing : Obligations.NopAndUnconfiguredStationsTakeNothing := by
  refine ⟨fun s hs => ?_, fun s r hs hrun hnop hconf hquery hcause => exec_notConfigured hs hrun hnop ?_⟩
  · exact (exec_command_eq_endTransaction .nop).trans (congrArg _ (endTransaction_nop hs))
  · cases r with
    | configure c => exact absurd rfl (hconf c)
    | stationQuery => exact absurd rfl hquery
    | readCause => exact absurd rfl hcause
    | _ => rfl

/-- Settles O10: a Quota Table request is handed to the arbiter on the state at its taking. -/
theorem tableRequestsWaitInClass1 : Obligations.TableRequestsWaitInClass1 := by
  intro s a ⟨hs, hrun⟩
  have hcommand : exec (.localRequestTaken a) s = .next (s.endWith (.access a) (State.takeAccess a)) := rfl
  rw [hcommand, endWith_taken hs (by simp) (.inl hrun)]
  unfold State.takeAccess State.atTaking
  rfl

end Sys2Proof.Machine
end

section
/-! PROOFS. CONFIGURE, the requests that only read, and the machine after reset (R91, R114, R169, R188, R189, R191, R192). -/

namespace Sys2Proof.Machine

variable {s : State}

/-! ### The checks of CONFIGURE (R188) -/

section Checks

variable {c : Settings}

/-- The settings of 10.4 are those that pass the sixteen range checks and the sizing check. -/
theorem acceptable_iff : c.acceptable ↔ (rangeChecks c).all (fun ok => ok) = true ∧ sizingSum c ≤ 98304 := by
  simp only [Settings.acceptable, rangeChecks, inRange, sizingSum, List.all_cons, List.all_nil, Bool.and_true, Bool.and_eq_true,
    Bool.or_eq_true, decide_eq_true_eq, beq_iff_eq, Nat.zero_le, true_and, or_assoc, and_assoc]

/-- The index of the first field out of range (R188). -/
theorem badIndex_range {i : Nat} (h : (rangeChecks c)[i]? = some false) (hbefore : ∀ j < i, (rangeChecks c)[j]? = some true) :
    badIndex c = i + 1 := by
  have hfirst : (rangeChecks c).findIdx? (fun ok => !ok) = some i := by
    obtain ⟨hi, hfalse⟩ := List.getElem?_eq_some_iff.1 h
    refine List.findIdx?_eq_some_iff_getElem.2 ⟨hi, by simp [hfalse], fun j hj => ?_⟩
    obtain ⟨_, htrue⟩ := List.getElem?_eq_some_iff.1 (hbefore j hj)
    simp [htrue]
  unfold badIndex
  rw [hfirst]

/-- With every field in range the sizing check decides (R188). -/
theorem badIndex_sizing (h : (rangeChecks c).all (fun ok => ok) = true) : badIndex c = if 98304 < sizingSum c then 17 else 0 := by
  have hnone : (rangeChecks c).findIdx? (fun ok => !ok) = none :=
    List.findIdx?_eq_none_iff.2 fun ok hok => by simp [List.all_eq_true.1 h ok hok]
  unfold badIndex
  rw [hnone]
  rfl

theorem badIndex_acceptable (h : c.acceptable) : badIndex c = 0 := by
  obtain ⟨hrange, hsum⟩ := acceptable_iff.1 h
  rw [badIndex_sizing hrange, if_neg (Nat.not_lt.2 hsum)]

/-! ### CONFIGURE (R186, R188, R189) -/

theorem exec_configure (h : s.listens) :
    exec (.configure c) s =
      .next (State.answer (configure c s.atTaking).2.1 1 false (configure c s.atTaking).2.2 (configure c s.atTaking).1) :=
  exec_takenAtOnce (r := .configure c) (handle := configure c) h (.inr rfl) rfl (by simp)

theorem configure_running (h : s.link.running = true) :
    configure c s = (s, .wrongState, .configure s.station 0 (sizingSum c) 0 none) := if_pos h

theorem configure_refused (h : s.link.running = false) (hbad : badIndex c ≠ 0) :
    configure c s = (s, .badConfig, .configure s.station (badIndex c) (sizingSum c) 0 none) :=
  (if_neg (Bool.eq_false_iff.1 h)).trans (if_neg hbad)

/-- The source on which the frame timer starts (R178). -/
theorem accept_source (c : Settings) (s : State) : (s.accept c).tb.source = if s.tb.refPresent then .reference else .internal := by
  unfold State.accept
  simp only []
  split <;> rfl

theorem configure_accepted (h : s.link.running = false) (hc : c.acceptable) :
    configure c s =
      (s.accept c, .ok,
        .configure s.station 0 (sizingSum c) (98304 - sizingSum c) (some (if s.tb.refPresent then .reference else .internal))) := by
  rw [← accept_source c s]
  exact (if_neg (Bool.eq_false_iff.1 h)).trans (if_pos (badIndex_acceptable hc))

end Checks

/-- Settles O11: the acceptance, then the refusals by the index that the checks give. -/
theorem configureStartsTheStationOrIsRefused : Obligations.ConfigureStartsTheStationOrIsRefused := by
  refine ⟨fun s c hs hrun hc => ?_, fun s c hs => ?_⟩
  · have hexec := exec_configure (c := c) hs
    rw [configure_accepted (by simpa using hrun) hc] at hexec
    rw [← atTaking_station s, ← atTaking_tb s]
    generalize s.atTaking = v at *
    exact hexec
  · have hexec := exec_configure (c := c) hs
    rw [← atTaking_running s, ← atTaking_station s]
    generalize s.atTaking = v at hexec
    intro sum
    refine ⟨fun i hrun _ hbad hbefore => ?_, fun hrun hrange hsum => ?_, fun hrun => ?_, acceptable_iff⟩
    · have hindex := badIndex_range hbad hbefore
      rw [configure_refused hrun (by simp [hindex]), hindex] at hexec
      exact hexec
    · have hindex := (badIndex_sizing hrange).trans (if_pos hsum)
      rw [configure_refused hrun (by simp [hindex]), hindex] at hexec
      exact hexec
    · rw [configure_running hrun] at hexec
      exact hexec

/-! ### The requests that only read (R91, R114, R169, R192) -/

theorem exec_stationQuery (h : s.listens) :
    exec .stationQuery s =
      .next (State.answer (stationQuery s.atTaking).2.1 3 false (stationQuery s.atTaking).2.2 (stationQuery s.atTaking).1) :=
  exec_takenAtOnce (r := .stationQuery) (handle := stationQuery) h (.inr rfl) rfl (by simp)

theorem exec_snapQuery (h : s.takesRequests) (e : Epoch) (mode : SnapMode) :
    exec (.snapQuery e mode) s =
      .next (State.answer (snapQuery e mode s.atTaking).2.1 50 false (snapQuery e mode s.atTaking).2.2 (snapQuery e mode s.atTaking).1) :=
  exec_takenAtOnce (r := .snapQuery e mode) (handle := snapQuery e mode) h.1 (.inl h.2) rfl (by simp)

theorem exec_dupQuery (h : s.takesRequests) :
    exec .dupQuery s = .next (State.answer (dupQuery s.atTaking).2.1 87 false (dupQuery s.atTaking).2.2 (dupQuery s.atTaking).1) :=
  exec_takenAtOnce (r := .dupQuery) (handle := dupQuery) h.1 (.inl h.2) rfl (by simp)

/-- A peer counts at the next boundary when it is still heard then, its SHARE fresh and its backlog known (R73, R91). -/
theorem countedBacklog_isSome (goneAge : Nat) (p : PeerEntry) :
    (countedBacklog goneAge p).isSome =
      (decide (p.state = .present ∧ min 255 (p.framesSince + 1) < goneAge ∧ p.shareAge ≤ 1) && p.backlog.isSome) := by
  unfold countedBacklog agedFrames
  split
  · rename_i h
    rw [decide_eq_true h, Bool.true_and]
  · rename_i h
    rw [decide_eq_false h, Bool.false_and, Option.isSome_none]

theorem peerQuery_other {st : Station} (h : st ≠ s.station) :
    peerQuery st.val s =
      (s, .ok, .peerQuery (s.peer st)
        (decide ((s.peer st).state = .present ∧ min 255 ((s.peer st).framesSince + 1) < s.settings.goneAge ∧ (s.peer st).shareAge ≤ 1) &&
          (s.peer st).backlog.isSome) (s.dropRuns st)) := by
  rw [← countedBacklog_isSome]
  exact (dif_pos st.isLt).trans (if_neg h)

/-- Settles O12: each query by its own answer on the state at its taking. -/
theorem queriesOnlyAnswer : Obligations.QueriesOnlyAnswer := by
  intro s hs
  have hstation := exec_stationQuery hs
  have hpeer := fun (hrun : s.link.running = true) n => exec_peerQuery (n := n) ⟨hs, hrun⟩
  have hsnap := fun hrun : s.link.running = true => exec_snapQuery ⟨hs, hrun⟩
  have hdup := fun hrun : s.link.running = true => exec_dupQuery ⟨hs, hrun⟩
  rw [← atTaking_settings s, ← atTaking_station s]
  generalize s.atTaking = v at *
  exact ⟨hstation, fun hrun st hst => by rw [hpeer hrun, peerQuery_other hst], hsnap, hdup⟩

/-! ### The machine after reset (R178, R187, R191) -/

/-- Settles O55: the power-on values, then each invariant on empty tables. -/
theorem resetStateHoldsPowerOnValuesAndInvariants : Obligations.ResetStateHoldsPowerOnValuesAndInvariants := by
  obtain ⟨hqueues, htables, hsizes⟩ := sized_iff.1 reset_sized
  have hcauses : State.reset.causesLawful := ⟨Nat.zero_le _, .nil, fun _ h => absurd h List.not_mem_nil⟩
  exact ⟨⟨powerOn_atPowerOnValues false 0 false false [], rfl, rfl, rfl, rfl⟩, hcauses, powerOn_usersLawful false 0 false, hqueues, htables,
    hsizes, noticed_iff.1 reset_noticed, ledgersLawful_iff.2 (powerOn_books_lawful false 0 false)⟩

end Sys2Proof.Machine
end

section
/-! PROOFS. RESTART: the return of the grants, what it does at its taking, and its releases (R146, R168, R170, R190). -/

namespace Sys2Proof.Machine

variable {s : State}

/-! ### The return of one grant (R168, R170) -/

theorem modifyWorkEpoch_frame (w : DupWork) (f : CatEntry → CatEntry) (s : State) :
    s.modifyWorkEpoch w f = { s with cat := (s.modifyWorkEpoch w f).cat } := by
  unfold State.modifyWorkEpoch
  split <;> rfl

/-- An entry that returns touches the Duplication Unit and the catalogue alone (R168). -/
theorem returnEntry_frame (w : DupWork) (retries : Nat) (s : State) :
    s.returnEntry w retries = { s with dup := (s.returnEntry w retries).dup, cat := (s.returnEntry w retries).cat } := by
  cases w with
  | extent e token units =>
    unfold State.returnEntry
    simp only []
    split <;> rfl
  | endMark e => rfl
  | halt => rfl

theorem returnGrant_frame (s : State) (x : Fin 8 × Grant) :
    s.returnGrant x = { s with dup := (s.returnGrant x).dup, cat := (s.returnGrant x).cat } := by
  unfold State.returnGrant
  rw [returnEntry_frame, freeGrantSlot_eq, modifyWorkEpoch_frame]

/-- An entry that returns changes the queue alone of the Duplication Unit (R168). -/
theorem returnEntry_dup (w : DupWork) (retries : Nat) (s : State) :
    (s.returnEntry w retries).dup = { s.dup with queue := (s.returnEntry w retries).dup.queue } := by
  have hqueue : ∃ queue, (s.returnEntry w retries).dup = { s.dup with queue := queue } := by
    rcases returnEntry_cases w retries s with ⟨e, token, units, -, h⟩ | h
    · exact ⟨_, congrArg Stock.dup h⟩
    · exact ⟨_, congrArg Stock.dup h⟩
  obtain ⟨queue, h⟩ := hqueue
  rw [h]

/-- The slot is freed with its generation kept, and the queue takes the entry (R162, R170). -/
theorem returnGrant_dup (s : State) (x : Fin 8 × Grant) :
    (s.returnGrant x).dup = { s.dup.freed x.1 with queue := (s.returnGrant x).dup.queue } := by
  have hfreed : (s.freeGrantSlot x.1 x.2).dup = s.dup.freed x.1 := congrArg Stock.dup (freeGrantSlot_stock x.1 x.2)
  rw [← hfreed]
  exact returnEntry_dup _ _ _

theorem returnGrant_grants (s : State) (x : Fin 8 × Grant) : (s.returnGrant x).dup.grants = (s.dup.freed x.1).grants := by
  rw [returnGrant_dup]

theorem returnGrant_returnParity (s : State) (x : Fin 8 × Grant) : (s.returnGrant x).dup.returnParity = s.dup.returnParity := by
  rw [returnGrant_dup]
  rfl

theorem returnGrant_own_slot (x : Fin 8 × Grant) (h : s.dup.grants.length = 8) :
    (s.returnGrant x).grantSlot x.1 = { gen := (s.grantSlot x.1).gen, grant := none } := by
  unfold State.grantSlot
  rw [returnGrant_grants]
  simp [Dup.freed, h]

/-- A grant returns as after a failed send, with its retries kept (R170). -/
theorem returnGrant_eq (s : State) (x : Fin 8 × Grant) :
    s.returnGrant x = State.returnEntry x.2.work x.2.retries
      { s.modifyWorkEpoch x.2.work (fun c => { c with inFlight := c.inFlight - 1 }) with
        dup := { s.dup with grants := s.dup.grants.set x.1.val { gen := (s.grantSlot x.1).gen, grant := none } } } := by
  unfold State.returnGrant
  rw [freeGrantSlot_eq]

/-- No queued EXTENT absorbs the entry of a work (R168). -/
def DupWork.freshIn (w : DupWork) (queue : List DupEntry) : Prop :=
  ∀ e token units, w = .extent e token units → queue.any (isExtent e token) = false

/-- An entry that nothing absorbs stands at the head of the queue (R168). -/
theorem returnEntry_queue {w : DupWork} (retries : Nat) (h : w.freshIn s.dup.queue) :
    (s.returnEntry w retries).dup.queue = { work := w, parity := s.dup.returnParity, retries := retries } :: s.dup.queue := by
  cases w with
  | extent e token units =>
    rw [returnEntry_extent units retries (h e token units rfl)]
    rfl
  | endMark e => rfl
  | halt => rfl

theorem returnGrant_queue {x : Fin 8 × Grant} (h : x.2.work.freshIn s.dup.queue) :
    (s.returnGrant x).dup.queue = { work := x.2.work, parity := s.dup.returnParity, retries := x.2.retries } :: s.dup.queue := by
  have hfreed : (s.freeGrantSlot x.1 x.2).dup = s.dup.freed x.1 := congrArg Stock.dup (freeGrantSlot_stock x.1 x.2)
  have hqueue := returnEntry_queue (s := s.freeGrantSlot x.1 x.2) (w := x.2.work) x.2.retries (by rw [hfreed]; exact h)
  rw [hfreed] at hqueue
  exact hqueue

theorem isExtent_iff {e : Epoch} {token : Token} {q : DupEntry} : isExtent e token q = true ↔ ∃ units, q.work = .extent e token units := by
  unfold isExtent
  split <;> simp_all

/-! ### The return of several grants (R170) -/

/-- Returned grants leave their slots FREE with their generations kept, and every other slot as it was (R162, R170). -/
theorem returnAll_grantSlot (l : List (Fin 8 × Grant)) (k : Fin 8) (h : s.dup.grants.length = 8) :
    (l.foldl State.returnGrant s).grantSlot k =
      if k ∈ l.map Prod.fst then { gen := (s.grantSlot k).gen, grant := none } else s.grantSlot k := by
  induction l generalizing s with
  | nil => simp
  | cons x rest ih =>
    have hlength : (s.returnGrant x).dup.grants.length = 8 := by simp [returnGrant_grants, Dup.freed, h]
    rw [List.foldl_cons, ih hlength]
    by_cases hk : k = x.1
    · subst hk
      simp [returnGrant_own_slot x h]
    · have hmem : k ∈ (x :: rest).map Prod.fst ↔ k ∈ rest.map Prod.fst := by simp [hk]
      simp only [returnGrant_slot x hk, hmem]

theorem returnAll_frame (l : List (Fin 8 × Grant)) (s : State) :
    l.foldl State.returnGrant s =
      { s with dup := (l.foldl State.returnGrant s).dup, cat := (l.foldl State.returnGrant s).cat } :=
  foldl_keeps (fun t : State => t = { s with dup := t.dup, cat := t.cat }) _ l
    (fun t x ht => by rw [returnGrant_frame, ht]) s rfl

/-- Entries of different tokens that nothing queued absorbs stand at the head, the last returned first (R168, R170). -/
theorem returnAll_queue (l : List (Fin 8 × Grant)) (hfresh : ∀ x ∈ l, x.2.work.freshIn s.dup.queue)
    (hapart : l.Pairwise fun x y => ∀ e token units more, ¬(x.2.work = .extent e token units ∧ y.2.work = .extent e token more)) :
    (l.foldl State.returnGrant s).dup.queue =
      (l.reverse.map fun x => { work := x.2.work, parity := s.dup.returnParity, retries := x.2.retries }) ++ s.dup.queue := by
  induction l generalizing s with
  | nil => rfl
  | cons x rest ih =>
    obtain ⟨hx, hrest⟩ := List.pairwise_cons.1 hapart
    have hqueue := returnGrant_queue (hfresh x List.mem_cons_self)
    have hnext : ∀ y ∈ rest, y.2.work.freshIn (s.returnGrant x).dup.queue := by
      intro y hy e token units hw
      have hother : isExtent e token { work := x.2.work, parity := s.dup.returnParity, retries := x.2.retries } = false := by
        rw [Bool.eq_false_iff, ne_eq, isExtent_iff]
        rintro ⟨own, hown⟩
        exact hx y hy e token own units ⟨hown, hw⟩
      rw [hqueue, List.any_cons, hother, Bool.false_or]
      exact hfresh y (List.mem_cons_of_mem _ hy) e token units hw
    rw [List.foldl_cons, ih hnext hrest, returnGrant_returnParity, hqueue]
    simp

/-! ### The order of the returns (R170) -/

/-- The grants in flight are those that the slots hold (R162). -/
theorem mem_grantsLatestFirst {x : Fin 8 × Grant} : x ∈ s.grantsLatestFirst ↔ (s.grantSlot x.1).grant = some x.2 := by
  refine ⟨(grantsLatestFirst_slots s).2 x, fun h => ?_⟩
  have hslot := List.mem_finRange x.1
  unfold State.grantsLatestFirst
  generalize List.finRange 8 = slots at hslot
  induction slots with
  | nil => cases hslot
  | cons i rest ih =>
    rw [List.foldr_cons]
    rcases List.mem_cons.1 hslot with hi | hrest
    · rw [← hi, h]
      exact (insertGrant_perm _ _).mem_iff.2 List.mem_cons_self
    · split
      · exact ih hrest
      · exact (insertGrant_perm _ _).mem_iff.2 (List.mem_cons_of_mem _ (ih hrest))

theorem insertGrant_sorted (x : Fin 8 × Grant) {l : List (Fin 8 × Grant)} (h : l.Pairwise fun a b => b.2.order ≤ a.2.order) :
    (insertGrant x l).Pairwise fun a b => b.2.order ≤ a.2.order := by
  induction l with
  | nil => exact List.pairwise_singleton _ _
  | cons y ys ih =>
    obtain ⟨hy, hys⟩ := List.pairwise_cons.1 h
    by_cases hlt : y.2.order < x.2.order
    · rw [insertGrant, if_pos hlt]
      refine List.pairwise_cons.2 ⟨fun z hz => ?_, h⟩
      rcases List.mem_cons.1 hz with rfl | hz
      · exact hlt.le
      · exact (hy z hz).trans hlt.le
    · rw [insertGrant, if_neg hlt]
      refine List.pairwise_cons.2 ⟨fun z hz => ?_, ih hys⟩
      rcases List.mem_cons.1 ((insertGrant_perm x ys).mem_iff.1 hz) with rfl | hz
      · exact Nat.le_of_not_lt hlt
      · exact hy z hz

theorem grantsLatestFirst_sorted (s : State) : s.grantsLatestFirst.Pairwise fun a b => b.2.order ≤ a.2.order := by
  unfold State.grantsLatestFirst
  induction List.finRange 8 with
  | nil => exact .nil
  | cons i rest ih =>
    rw [List.foldr_cons]
    split
    · exact ih
    · exact insertGrant_sorted _ ih

/-- After the return of every grant each slot is FREE with its generation kept (R162, R170). -/
theorem returnGrants_grantSlot (i : Fin 8) (h : s.dup.grants.length = 8) :
    s.returnGrants.grantSlot i = { gen := (s.grantSlot i).gen, grant := none } := by
  unfold State.returnGrants
  rw [returnAll_grantSlot _ _ h]
  split
  · rfl
  · rename_i hfree
    cases hslot : (s.grantSlot i).grant with
    | none => rw [← hslot]
    | some g => exact absurd (List.mem_map_of_mem (mem_grantsLatestFirst.2 hslot : (i, g) ∈ _)) hfree

/-- The grants in flight in strict reverse order of granting are the list that RESTART returns (R170). -/
theorem eq_grantsLatestFirst {l : List (Fin 8 × Grant)} (hmem : ∀ i g, (i, g) ∈ l ↔ (s.grantSlot i).grant = some g)
    (hsorted : l.Pairwise fun x y => y.2.order < x.2.order) : s.grantsLatestFirst = l := by
  have horders : (l.map fun x => x.2.order).Nodup := List.pairwise_map.2 (hsorted.imp fun h => h.ne')
  have hperm : s.grantsLatestFirst.Perm l :=
    (List.perm_ext_iff_of_nodup (grantsLatestFirst_slots s).1.of_map horders.of_map).2 fun x => mem_grantsLatestFirst.trans (hmem x.1 x.2).symm
  refine hperm.eq_of_pairwise (fun a b ha hb hab hba => ?_) (grantsLatestFirst_sorted s) (hsorted.imp fun h => h.le)
  exact List.inj_on_of_nodup_map horders (hperm.mem_iff.1 ha) hb (le_antisymm hba hab)

/-! ### RESTART at its taking (R190) -/

/-- While a release of its own waits, RESTART stays in progress (R190). -/
theorem finishRestart_waits (h : s.class1.any Client.ofRestart = true) : s.finishRestart = s := if_pos h

/-- With none of its releases left, RESTART is answered (R190). -/
theorem finishRestart_done {code : Byte} {mark : Bool} {jobs grants : Nat} (h : s.class1.any Client.ofRestart = false)
    (hp : s.link.inProgress = some { code := code, mark := mark, work := .restart jobs grants }) :
    s.finishRestart =
      { s with link := { s.link with
        inProgress := none, reply := some { status := .ok, code := code, mark := mark, body := .restart jobs grants } } } := by
  unfold State.finishRestart
  rw [h, hp]
  rfl

theorem returnGrants_frame (s : State) : s.returnGrants = { s with dup := s.returnGrants.dup, cat := s.returnGrants.cat } :=
  returnAll_frame _ s

@[simp] theorem returnGrants_link (s : State) : s.returnGrants.link = s.link := by rw [returnGrants_frame]

@[simp] theorem returnGrants_class1 (s : State) : s.returnGrants.class1 = s.class1 := by rw [returnGrants_frame]

/-- The slots of the ACTIVE jobs, in ascending order (R146). -/
def State.activeSlots (s : State) : List (Fin 8) := (List.finRange 8).filter fun i => (s.jobSlot i).job.isSome

/-- The returned grants leave the releases to offer as they were (R146, R170). -/
theorem returnGrants_restartClients (s : State) :
    s.returnGrants.restartClients = s.activeSlots.map fun i => .restartRelease i (s.jobSlot i).gen := by
  rw [returnGrants_frame]
  simp only [State.restartClients, State.activeSlots, State.slotFree, State.jobSlot, Option.not_isNone]

theorem restartReactions_eq (s : State) :
    s.restartReactions =
      { s.returnGrants with
        watch := []
        causes := []
        digest := { s.returnGrants.digest with held := false, quiet := 0 }
        class1 := s.class1 ++ s.activeSlots.map fun i => .restartRelease i (s.jobSlot i).gen } := by
  unfold State.restartReactions
  simp only [returnGrants_restartClients, returnGrants_class1]
  rfl

/-- RESTART in progress: its reactions made, and its reply still to be formed (R190). -/
def State.restarting (s : State) : State :=
  { s.restartReactions with
    link := { s.link with inProgress := some { code := 2, mark := false, work := .restart 0 s.dup.inFlight } } }

theorem takeRestart_eq (s : State) : s.takeRestart = s.settle.restarting.finishRestart := by
  unfold State.takeRestart State.restarting
  generalize s.settle = t
  have hlink : t.restartReactions.link = t.link := returnGrants_link t
  simp only [hlink]
  rfl

theorem exec_restart (h : s.takesRequests) : exec .restart s = .next s.atTaking.restarting.finishRestart := by
  have hcommand : exec .restart s = .next (s.endWith .restart State.takeRestart) := rfl
  rw [hcommand, endWith_taken h.1 (by simp) (.inl h.2), takeRestart_eq]
  rfl

/-! ### The releases of RESTART (R146, R190) -/

/-- The end of a job touches no client of class 1 (R140). -/
theorem endJob_class1 (i : Fin 8) (j : Job) : (s.endJob i j).class1 = s.class1 := by
  unfold State.endJob State.changeJobUser
  split <;> rfl

theorem restartRelease_class1 (i gen : Fin 8) : (s.restartRelease i gen).class1 = s.class1 := by
  unfold State.restartRelease
  split
  · rfl
  · exact endJob_class1 _ _

/-- The release at the head of class 1 is served (R14, R146). -/
theorem exec_restartRelease_head {i gen : Fin 8} {rest : List Client} (h : s.settle.class1 = .restartRelease i gen :: rest) :
    exec .restartRelease s = .next (State.finishRestart
      { State.restartRelease i gen { s.settle with class1 := rest } with
        link := s.link.countEnded (s.settle.releaseJob i gen).isSome.toNat }) := by
  have hcommand : exec .restartRelease s = .next s.serveRestartRelease := rfl
  rw [hcommand]
  unfold State.serveRestartRelease
  simp only [h, settle_link]

theorem countEnded_restart {l : Link} {code : Byte} {mark : Bool} {jobs grants : Nat} (n : Nat)
    (h : l.inProgress = some { code := code, mark := mark, work := .restart jobs grants }) :
    l.countEnded n = { l with inProgress := some { code := code, mark := mark, work := .restart (jobs + n) grants } } := by
  unfold Link.countEnded
  rw [h]

/-- Settles O14: RESTART by whether a job is ACTIVE, the return of the grants in their order, and a release by whether another is left. -/
theorem restartEndsTheSessionAndReturnsGrants : Obligations.RestartEndsTheSessionAndReturnsGrants := by
  refine ⟨fun s hs hclients => ?_, fun s hs => ⟨fun i => ?_, returnGrants_frame s, fun l hmem hsorted => ?_⟩,
    fun s i gen rest code mark jobs grants hhead hwork => ?_⟩
  · rw [exec_restart hs]
    generalize s.atTaking = v at *
    intro r active ended
    have htaken : v.restarting = { ended with
        link := { v.link with inProgress := some { code := 2, mark := false, work := .restart 0 v.dup.inFlight } } } := by
      unfold State.restarting
      rw [restartReactions_eq]
      rfl
    rw [htaken]
    refine ⟨fun hnone => ?_, fun hsome => ?_⟩
    · have hdone : ended.class1.any Client.ofRestart = false := by simpa [ended, hnone] using hclients
      exact congrArg _ (finishRestart_done hdone rfl)
    · have hwaits : ended.class1.any Client.ofRestart = true := by
        obtain ⟨i, hi⟩ := List.exists_mem_of_ne_nil _ hsome
        exact List.any_eq_true.2 ⟨_, List.mem_append_right _ (List.mem_map_of_mem hi), rfl⟩
      exact congrArg _ (finishRestart_waits hwaits)
  · obtain ⟨-, -, hlength, -⟩ := hs
    exact returnGrants_grantSlot i hlength
  · have hlist := eq_grantsLatestFirst hmem hsorted
    unfold State.returnGrants
    rw [hlist]
    refine ⟨?_, fun hfresh hapart => returnAll_queue l hfresh hapart⟩
    congr 1
    funext t x
    exact returnGrant_eq t x
  · rw [exec_restartRelease_head hhead, countEnded_restart _ hwork]
    generalize s.settle = v at *
    intro t ended u count
    have hu : t.restartRelease i gen = u := rfl
    have hclass1 : u.class1 = rest := hu ▸ restartRelease_class1 i gen
    have hcount : jobs + (v.releaseJob i gen).isSome.toNat = count := congrArg (jobs + ·) (Bool.cond_eq_ite _ _ _)
    rw [hu, hcount]
    refine ⟨fun hwaits => ?_, fun hdone => ?_⟩
    · exact congrArg _ (finishRestart_waits (by rw [← hclass1] at hwaits; exact hwaits))
    · exact congrArg _ (finishRestart_done (by rw [← hclass1] at hdone; exact hdone) rfl)

end Sys2Proof.Machine
end

section
/-! PROOFS. Every step keeps the Cause List lawful (R193, R197): what a raised cause, a record's change, the outbound queue's work, the follow-on
steps and the taking of requests do to the list. -/

namespace Sys2Proof.Machine

variable {s t : State}

/-! ### The list itself -/

theorem State.causesLawful.of_causes (h : s.causesLawful) (ht : t.causes = s.causes) : t.causesLawful := by
  unfold State.causesLawful
  rwa [ht]

/-- A block raises a cause of any kind but MIXED, which the list alone makes (R194, R197). -/
theorem raise_causesLawful (h : s.causesLawful) (k : CauseKind) {b : Subject} {v : Option CauseValue} (hk : k ≠ .mixed := by decide) :
    (s.raise k b v).causesLawful :=
  raiseIn_lawful h hk

/-- RESTART, POWER_ON and RESET leave the list empty (R191, R200). -/
theorem causesLawful_of_empty (h : s.causes = []) : s.causesLawful := by
  unfold State.causesLawful
  rw [h]
  exact ⟨Nat.zero_le _, .nil, fun _ hr => absurd hr List.not_mem_nil⟩

/-! ### The records of users -/

theorem commit_causesLawful (old changed : UserRec) (h : s.causesLawful) : (s.commit old changed).causesLawful := watchCause_lawful h

theorem putState_causesLawful (u : UserRec) (x : UserState) (h : s.causesLawful) : (s.putState u x).causesLawful := watchCause_lawful h

/-! ### The outbound queue -/

/-- A notice that leaves the queue is no cause (R58). -/
@[simp] theorem depart_causes (q : QNotice) (e : NoticeEnd) : (s.depart q e).causes = s.causes := by
  unfold State.depart
  cases q.notice with
  | usage user x =>
    simp only []
    split
    · cases e <;> rfl
    · cases e with
      | dropped => simp only []; split <;> rfl
      | _ => rfl
  | _ => rfl

theorem placeFinal_causes {n : Nat} (ht : s.placeFinal n = some t) : t.causes = s.causes := by
  unfold State.placeFinal at ht
  split at ht
  · cases ht
    rfl
  · split at ht
    · cases ht
      rfl
    · split at ht
      · cases ht
      · cases ht
        exact depart_causes _ _

theorem placeOneWaiting_causes (n : Nat) : (s.placeOneWaiting n).causes = s.causes := by
  unfold State.placeOneWaiting
  split
  · rfl
  · rename_i t ht
    exact (clearDue_causes t n).trans (placeFinal_causes ht)

@[simp] theorem placeWaiting_causes : s.placeWaiting.causes = s.causes :=
  foldl_keeps (fun v : State => v.causes = s.causes) _ _ (fun _ n hv => (placeOneWaiting_causes n).trans hv) s rfl

theorem placeNow_causes {n : Nat} (ht : s.placeNow n = some t) : t.causes = s.causes := by
  obtain ⟨u, hu, rfl | rfl⟩ := placeNow_eq ht
  · exact placeFinal_causes hu
  · rw [placeWaiting_causes, placeFinal_causes hu]

@[simp] theorem endTransmission_causes (e : NoticeEnd) : (s.endTransmission e).causes = s.causes := by
  unfold State.endTransmission
  split
  · rfl
  · split <;> rw [placeWaiting_causes, depart_causes]

@[simp] theorem abandonAttempt_causes : s.abandonAttempt.causes = s.causes := by
  unfold State.abandonAttempt
  split
  · exact endTransmission_causes _
  · rfl

theorem failAttempt_causes : s.failAttempt.causes = s.causes := by
  unfold State.failAttempt
  split
  · rfl
  · split
    · exact endTransmission_causes _
    · exact placeWaiting_causes

@[simp] theorem offerEpoch_causes (n : Notice) : (s.offerEpoch n).causes = s.causes := by
  unfold State.offerEpoch
  split
  · rfl
  · split
    · rfl
    · split
      · rfl
      · rw [depart_causes, placeWaiting_causes]

@[simp] theorem withdraw_causes (p : Notice → Bool) : (s.withdraw p).causes = s.causes := by
  unfold State.withdraw
  split
  · rfl
  · rw [placeWaiting_causes, depart_causes]

/-! ### The follow-on steps -/

/-- EPOCH_CLOSED (R108). -/
theorem closeTest_causesLawful (e : Epoch) (h : s.causesLawful) : (s.closeTest e).causesLawful := by
  unfold State.closeTest
  split
  · exact h
  · split
    · exact raise_causesLawful (s := s.modifyEpoch e _) h .epochClosed
    · exact h

/-- EPOCH_ABANDONED (R100). -/
theorem abandonAsked_causesLawful (b : Bool) (h : s.causesLawful) : (s.abandonAsked b).causesLawful := by
  unfold State.abandonAsked
  split
  · exact h
  · rename_i c hc
    have hraised := raise_causesLawful (s := { s with cat := s.cat.eraseP fun c => decide (c.state = .asked) }) h .epochAbandoned
      (b := .epoch c.epoch) (v := some (.abandoned b))
    simp only []
    split
    · exact hraised.of_causes (withdraw_causes _)
    · exact hraised

theorem dropRequired_causesLawful (st : Station) (e : Epoch) (h : s.causesLawful) : (s.dropRequired st e).causesLawful := by
  unfold State.dropRequired
  split
  · exact h
  · split
    · exact closeTest_causesLawful (s := s.modifyEpoch e _) e h
    · exact h

theorem freeRetired_causes (n : Nat) : (s.freeRetired n).causes = s.causes := by
  unfold State.freeRetired
  split
  · simp only []
    split <;> rfl
  · rfl

theorem dueAfterLoss_causes (n : Nat) : (s.dueAfterLoss n).causes = s.causes := by
  unfold State.dueAfterLoss
  split
  · simp only []
    split <;> rfl
  · rfl

theorem takeStretched_causes : s.takeStretched.causes = s.causes := by
  unfold State.takeStretched
  split
  · split <;> rfl
  all_goals rfl

/-- PEER_GONE (R72), and the close tests after the station leaves the required sets (R109). -/
theorem agePeer_causesLawful (st : Station) (h : s.causesLawful) : (s.agePeer st).causesLawful := by
  unfold State.agePeer
  split
  · exact foldl_keeps State.causesLawful _ _ (fun _ e ht => dropRequired_causesLawful st e ht) _
      (raise_causesLawful (s := s.setPeer st _) h .peerGone)
  · exact h

theorem expireAsk_causesLawful (h : s.causesLawful) : s.expireAsk.causesLawful := by
  unfold State.expireAsk
  split
  · exact h
  · split
    · exact abandonAsked_causesLawful _ h
    · exact h

/-- EPOCH_CLOSED with PARTIAL (R111). -/
theorem expireClose_causesLawful (e : Epoch) (h : s.causesLawful) : (s.expireClose e).causesLawful := by
  unfold State.expireClose
  split
  · exact h
  · split
    · exact raise_causesLawful (s := s.modifyEpoch e _) h .epochClosed
    · exact h

theorem offerRelease_causes (i : Fin 8) : (s.offerRelease i).causes = s.causes := by
  unfold State.offerRelease
  split
  · rfl
  · split <;> rfl

/-- WINDOW_CLOSED (R157). -/
theorem closeWindow_causesLawful (why : CloseReason) (h : s.causesLawful) : (s.closeWindow why).causesLawful :=
  raise_causesLawful (s := State.offerShare 0 { s with dup := s.dup.closed }) h .windowClosed

theorem expireWindow_causesLawful (h : s.causesLawful) : s.expireWindow.causesLawful := by
  unfold State.expireWindow
  split
  · exact closeWindow_causesLawful .limit h
  · exact h

theorem settle_causesLawful (h : s.causesLawful) : s.settle.causesLawful :=
  settle_keeps State.causesLawful (fun _ n ht => ht.of_causes (freeRetired_causes n)) (fun _ n ht => ht.of_causes (dueAfterLoss_causes n))
    (fun _ ht => ht.of_causes takeStretched_causes) (fun _ st => agePeer_causesLawful st) (fun _ => expireAsk_causesLawful)
    (fun _ e => expireClose_causesLawful e) (fun _ i ht => ht.of_causes (offerRelease_causes i)) (fun _ => expireWindow_causesLawful) s h

/-! ### Requests, accesses and receipts -/

theorem takeAtOnce_causesLawful (c : Byte) {handle : State → Answer} (hHandle : ∀ v : State, v.causesLawful → (handle v).1.causesLawful)
    (h : s.causesLawful) : (s.takeAtOnce c handle).causesLawful :=
  (hHandle _ (settle_causesLawful h)).of_causes (answer_causes _ _ _ _ _)

theorem takeAccess_causesLawful (a : Access) (h : s.causesLawful) : (s.takeAccess a).causesLawful := by
  have ht := settle_causesLawful h
  unfold State.takeAccess
  generalize s.settle = v at ht
  exact ht

theorem accessRequest_causesLawful (a : Access) {body : State → Answer} (hBody : ∀ v : State, v.causesLawful → (body v).1.causesLawful)
    (h : s.causesLawful) : (s.accessRequest a body).causesLawful :=
  accessRequest_keeps State.causesLawful a body (fun _ => settle_causesLawful) (fun _ ht => ht) hBody (fun _ _ ht => ht)
    (fun _ _ _ _ _ ht => ht) s h

theorem receive_causesLawful {α : Type} (pick : Notice → Option α) {act : Station → α → State → State}
    (hAct : ∀ (st : Station) (a : α) (v : State), v.causesLawful → (act st a v).causesLawful) (h : s.causesLawful) :
    (s.receive pick act).causesLawful :=
  receive_keeps State.causesLawful pick act (fun _ => settle_causesLawful) (fun _ ht => ht) hAct s h

end Sys2Proof.Machine
end

section
/-! PROOFS. The accesses of chapter 2, the holds and restores, the snapshots and the Peer View keep the Cause List lawful (R193, R197). -/

namespace Sys2Proof.Machine

variable {s : State}

/-! ### The requests of chapter 2 -/

/-- An access after the checks of R25: only the work on a record that was found can raise a cause. -/
theorem withUser_causesLawful (n : Nat) (refused : UserBlock → ReplyBody) {act : UserRec → State → Answer}
    (hAct : ∀ u, (act u s).1.causesLawful) (h : s.causesLawful) : (s.withUser n refused act).1.causesLawful := by
  unfold State.withUser
  split
  · exact h
  · split
    · exact h
    · exact hAct _

theorem chargeAccess_causesLawful (n k : Nat) (h : s.causesLawful) : (chargeAccess n k s).1.causesLawful := by
  unfold chargeAccess
  split
  · exact h
  · refine withUser_causesLawful _ _ (fun u => ?_) h
    simp only []
    split
    · exact commit_causesLawful _ _ h
    · exact h

theorem creditAccess_causesLawful (n k : Nat) (h : s.causesLawful) : (creditAccess n k s).1.causesLawful := by
  unfold creditAccess
  iterate 2 (split; · exact h)
  exact withUser_causesLawful _ _ (fun _ => commit_causesLawful _ _ h) h

theorem userLoadAccess_causes (n soft hard live : Nat) : (userLoadAccess n soft hard live s).1.causes = s.causes := by
  unfold userLoadAccess
  iterate 2 (split; · rfl)
  split
  · split <;> rfl
  · split <;> rfl

theorem userLimitsAccess_causesLawful (n soft hard : Nat) (h : s.causesLawful) : (userLimitsAccess n soft hard s).1.causesLawful := by
  unfold userLimitsAccess
  iterate 2 (split; · exact h)
  exact withUser_causesLawful _ _ (fun _ => commit_causesLawful _ _ h) h

theorem userFreezeAccess_causesLawful (n : Nat) (h : s.causesLawful) : (userFreezeAccess n s).1.causesLawful :=
  withUser_causesLawful _ _ (fun _ => putState_causesLawful _ _ h) h

theorem userThawAccess_causesLawful (n : Nat) (h : s.causesLawful) : (userThawAccess n s).1.causesLawful := by
  refine withUser_causesLawful _ _ (fun u => ?_) h
  simp only []
  split
  · exact putState_causesLawful _ _ h
  · exact h

theorem beginRetiring_causesLawful (u : UserRec) (h : s.causesLawful) : (s.beginRetiring u).causesLawful := by
  have ht : (s.putState { u with reported := 0, reportDue := false } .retiring).causesLawful := putState_causesLawful _ _ h
  unfold State.beginRetiring
  simp only []
  split
  · rename_i placed hp
    exact ht.of_causes (placeNow_causes hp)
  · exact ht

theorem retireNow_causes (owed : Bool) (n : Nat) : (s.retireNow owed n).causes = s.causes := by
  unfold State.retireNow
  split
  · cases hp : s.placeNow n with
    | none => rfl
    | some t => exact (freeUser_causes _ n).trans (placeNow_causes hp)
  · rfl

theorem userRetireAccess_causesLawful (n : Nat) (h : s.causesLawful) : (userRetireAccess n s).1.causesLawful := by
  refine withUser_causesLawful _ _ (fun u => ?_) h
  simp only []
  split
  · exact h
  · split
    · exact beginRetiring_causesLawful u h
    · exact h.of_causes (retireNow_causes _ _)

theorem userResyncAccess_causesLawful (n : Nat) (h : s.causesLawful) : (userResyncAccess n s).1.causesLawful :=
  withUser_causesLawful _ _ (fun u => (commit_causesLawful u { u with spill := 0 } h).of_causes (setDue_causes _ n)) h

theorem userWatchAccess_causesLawful (n : Nat) (h : s.causesLawful) : (userWatchAccess n s).1.causesLawful := by
  refine withUser_causesLawful _ _ (fun u => ?_) h
  split
  · exact h
  · split <;> exact h

/-! ### Holds -/

theorem holdAccess_causesLawful (n : Nat) (e : Epoch) (k : Nat) (h : s.causesLawful) : (holdAccess n e k s).1.causesLawful := by
  unfold holdAccess
  iterate 2 (split; · exact h)
  refine withUser_causesLawful _ _ (fun u => ?_) h
  simp only []
  split
  · exact h
  · iterate 5 (split; · exact h)
    exact commit_causesLawful (s := State.modifyEpoch e _ { s with holds := _ }) _ _ h

/-- EXPIRY_DONE (R129). -/
theorem completeExpiry_causesLawful (e : Epoch) (k : Nat) (h : s.causesLawful) : (s.completeExpiry e k).causesLawful :=
  raise_causesLawful (s := { s with cat := s.cat.eraseP fun c => c.epoch == e }) h .expiryDone

theorem continueExpiry_causesLawful (e : Epoch) (k : Nat) (h : s.causesLawful) : (s.continueExpiry e k).causesLawful := by
  unfold State.continueExpiry
  split
  · exact completeExpiry_causesLawful e k h
  · exact h

theorem beginExpiry_causesLawful (e : Epoch) (discard : Bool) (h : s.causesLawful) : (s.beginExpiry e discard).causesLawful := by
  unfold State.beginExpiry
  refine continueExpiry_causesLawful e 0 ?_
  split <;> exact h

theorem snapExpire_causesLawful (e : Epoch) (discard : Bool) (h : s.causesLawful) : (snapExpire e discard s).1.causesLawful := by
  unfold snapExpire
  split
  · exact h
  · split
    · exact beginExpiry_causesLawful e discard h
    · exact h

theorem releaseHold_causesLawful (x : Hold) (h : s.causesLawful) : (s.releaseHold x).causesLawful := by
  unfold State.releaseHold
  simp only []
  split
  · exact h
  · exact commit_causesLawful (s := State.modifyEpoch x.epoch _ { s with holds := _ }) _ _ h

theorem expiryStep_causesLawful (e : Epoch) (k : Nat) (h : s.causesLawful) : (s.expiryStep e k).causesLawful := by
  unfold State.expiryStep
  split
  · exact completeExpiry_causesLawful e k h
  · exact continueExpiry_causesLawful e _ (releaseHold_causesLawful _ h)

theorem serveExpiryStep_causesLawful (h : s.causesLawful) : s.serveExpiryStep.causesLawful := by
  have ht := settle_causesLawful h
  unfold State.serveExpiryStep
  generalize s.settle = v at ht
  simp only []
  split
  · split
    · exact expiryStep_causesLawful _ _ ht
    · exact h
  all_goals exact h

/-! ### Restores -/

theorem restoreBeginAccess_causesLawful (n : Nat) (e : Epoch) (k : Nat) (h : s.causesLawful) :
    (restoreBeginAccess n e k s).1.causesLawful := by
  unfold restoreBeginAccess
  iterate 2 (split; · exact h)
  refine withUser_causesLawful _ _ (fun u => ?_) h
  simp only []
  split
  · exact h
  · iterate 2 (split; · exact h)
    split
    · exact h
    · split
      · exact commit_causesLawful (s := State.modifyEpoch e _ (s.setJob _ _)) _ _ h
      · exact h

theorem changeJobUser_causesLawful (n : Nat) (f : UserRec → UserRec) (h : s.causesLawful) : (s.changeJobUser n f).causesLawful := by
  unfold State.changeJobUser
  split
  · exact h
  · exact commit_causesLawful _ _ h

theorem restoreProgressAccess_causesLawful (handle k : Nat) (h : s.causesLawful) : (restoreProgressAccess handle k s).1.causesLawful := by
  unfold restoreProgressAccess
  iterate 3 (split; · exact h)
  split
  · exact h
  · exact changeJobUser_causesLawful (s := s.setJob _ _) _ _ h

theorem endJob_causesLawful (i : Fin 8) (j : Job) (h : s.causesLawful) : (s.endJob i j).causesLawful :=
  changeJobUser_causesLawful (s := (s.setJob i _).modifyEpoch j.epoch _) _ _ h

theorem restoreEndAccess_causesLawful (handle : Nat) (h : s.causesLawful) : (restoreEndAccess handle s).1.causesLawful := by
  unfold restoreEndAccess
  split
  · exact h
  · split
    · exact h
    · exact endJob_causesLawful _ _ h

/-- RESTORE_TIMEOUT (R143). -/
theorem idleRelease_causesLawful (i gen : Fin 8) (h : s.causesLawful) : (s.idleRelease i gen).causesLawful := by
  unfold State.idleRelease
  split
  · exact h
  · split
    · exact raise_causesLawful (endJob_causesLawful _ _ h) .restoreTimeout
    · exact h

theorem serveIdleRelease_causesLawful (h : s.causesLawful) : s.serveIdleRelease.causesLawful := by
  have ht := settle_causesLawful h
  unfold State.serveIdleRelease
  generalize s.settle = v at ht
  simp only []
  split
  · exact idleRelease_causesLawful (s := { v with class1 := _ }) _ _ ht
  all_goals exact h

theorem restartRelease_causesLawful (i gen : Fin 8) (h : s.causesLawful) : (s.restartRelease i gen).causesLawful := by
  unfold State.restartRelease
  split
  · exact h
  · exact endJob_causesLawful _ _ h

theorem finishRestart_causes : s.finishRestart.causes = s.causes := by
  unfold State.finishRestart
  split
  · rfl
  · split
    · rfl
    · split <;> rfl

theorem serveRestartRelease_causesLawful (h : s.causesLawful) : s.serveRestartRelease.causesLawful := by
  have ht := settle_causesLawful h
  unfold State.serveRestartRelease
  generalize s.settle = v at ht
  simp only []
  split
  · rename_i i gen rest hc
    exact (restartRelease_causesLawful (s := { v with class1 := rest }) i gen ht).of_causes finishRestart_causes
  all_goals exact h

/-! ### Snapshots -/

theorem snapTake_causes : (snapTake s).1.causes = s.causes := by
  unfold snapTake
  iterate 3 (split; · rfl)
  exact offerEpoch_causes _

theorem snapReady_causesLawful (e : Epoch) (h : s.causesLawful) : (snapReady e s).1.causesLawful := by
  unfold snapReady
  split
  · exact h
  · split
    · exact closeTest_causesLawful e (State.causesLawful.of_causes (s := s.modifyEpoch e _) h (offerEpoch_causes _))
    · exact h

/-- EPOCH_ASKED, or CATALOGUE_FULL (R101). -/
theorem enterProposal_causesLawful (st : Station) (e : Epoch) (early : StationSet) (h : s.causesLawful) :
    (s.enterProposal st e early).causesLawful := by
  unfold State.enterProposal
  split
  · exact raise_causesLawful (s := { s with cat := _ }) h .epochAsked
  · exact raise_causesLawful h .catalogueFull

/-- CATALOGUE_FULL with SPAN (R94). -/
theorem refuseAdvance_causesLawful (e : Epoch) (h : s.causesLawful) : (s.refuseAdvance e).causesLawful := raise_causesLawful h .catalogueFull

theorem newProposal_causesLawful (st : Station) (e : Epoch) (early : StationSet) (h : s.causesLawful) :
    (s.newProposal st e early).causesLawful := by
  unfold State.newProposal
  split
  · exact enterProposal_causesLawful st e early (abandonAsked_causesLawful true h)
  · exact refuseAdvance_causesLawful e h

theorem answerStale_causes (l : Epoch) : (s.answerStale l).causes = s.causes := by
  unfold State.answerStale
  split
  · rfl
  · rw [offerEpoch_causes, withdraw_causes]

theorem receiveProposal_causesLawful (st : Station) (e : Epoch) (h : s.causesLawful) : (receiveProposal st e s).causesLawful := by
  unfold receiveProposal
  split
  · exact newProposal_causesLawful _ _ _ h
  · split
    · exact h
    · split
      · exact h.of_causes (withdraw_causes _)
      · exact h.of_causes (answerStale_causes _)

theorem receiveReady_causesLawful (st : Station) (e : Epoch) (h : s.causesLawful) : (receiveReady st e s).causesLawful := by
  unfold receiveReady
  split
  · exact closeTest_causesLawful (s := s.modifyEpoch e _) e h
  · split
    · exact newProposal_causesLawful _ _ _ h
    · exact h

/-- EPOCH_MISSED (R104). -/
theorem hearLatest_causesLawful (l : Epoch) (h : s.causesLawful) : (s.hearLatest l).causesLawful := by
  unfold State.hearLatest
  split
  · split
    · exact raise_causesLawful (abandonAsked_causesLawful true h) .epochMissed
    · exact refuseAdvance_causesLawful l h
  · exact h

/-! ### The Peer View and the sweeps -/

theorem removeStation_causesLawful (st : Station) (u : UserRec) (h : s.causesLawful) : (s.removeStation st u).causesLawful := by
  unfold State.removeStation
  split
  · exact commit_causesLawful _ _ h
  · exact h

/-- DROP_DONE (R89). -/
theorem completeDrop_causesLawful (st : Station) (k : Nat) (h : s.causesLawful) : (s.completeDrop st k).causesLawful :=
  raise_causesLawful (s := s.setPeer st _) h .dropDone

theorem continueDrop_causesLawful (st : Station) (p : Option Nat) (k : Nat) (h : s.causesLawful) :
    (s.continueDrop st p k).causesLawful := by
  unfold State.continueDrop
  split
  · exact completeDrop_causesLawful st k h
  · exact h

theorem dropStep_causesLawful (st : Station) (p : Option Nat) (k : Nat) (h : s.causesLawful) : (s.dropStep st p k).causesLawful := by
  unfold State.dropStep
  split
  · exact completeDrop_causesLawful st k h
  · exact continueDrop_causesLawful _ _ _ (removeStation_causesLawful st _ h)

theorem serveDropStep_causesLawful (h : s.causesLawful) : s.serveDropStep.causesLawful := by
  have ht := settle_causesLawful h
  unfold State.serveDropStep
  generalize s.settle = v at ht
  simp only []
  split
  · split
    · exact dropStep_causesLawful _ _ _ ht
    · exact h
  all_goals exact h

theorem peerDrop_causesLawful (n : Nat) (h : s.causesLawful) : (peerDrop n s).1.causesLawful := by
  unfold peerDrop
  split
  · simp only []
    iterate 3 (split; · exact h)
    exact continueDrop_causesLawful _ _ _ h
  · exact h

/-- DROP_CUT_SHORT, after the WATCH of the last step where one was being served (R90, log 42). -/
theorem cutDrop_causesLawful (st : Station) (served : Bool) (h : s.causesLawful) : (s.cutDrop st served).causesLawful := by
  unfold State.cutDrop
  split
  · exact h
  · exact h
  · split
    · split
      · exact raise_causesLawful h .dropCutShort
      · exact raise_causesLawful (removeStation_causesLawful st _ h) .dropCutShort
    · exact h

/-- PEER_JOINED or PEER_RETURNED (R69). -/
theorem hear_causesLawful (st : Station) (served : Bool) (h : s.causesLawful) : (s.hear st served).causesLawful := by
  unfold State.hear
  split
  · exact h
  · simp only []
    split
    · exact h
    · exact raise_causesLawful (s := s.setPeer st _) h .peerJoined
    · exact cutDrop_causesLawful st served (raise_causesLawful (s := s.setPeer st _) h .peerReturned)

theorem receiveUsage_causesLawful (st : Station) (n x : Nat) (h : s.causesLawful) : (receiveUsage st n x s).causesLawful := by
  unfold receiveUsage
  split
  · exact h
  · exact commit_causesLawful _ _ h

theorem serveUsage_causesLawful (h : s.causesLawful) : s.serveUsage.causesLawful := by
  unfold State.serveUsage
  split
  · exact receive_causesLawful _ (fun st r _ => receiveUsage_causesLawful st r.1 r.2) h
  · exact h

theorem receivePresence_causesLawful (st : Station) (l : Option Epoch) (h : s.causesLawful) : (receivePresence st l s).causesLawful := by
  unfold receivePresence
  cases l with
  | none => exact h
  | some l => exact hearLatest_causesLawful (s := s.setPeer st _) l h

theorem visitDigest_causes (u : UserRec) : (s.visitDigest u).causes = s.causes := by
  unfold State.visitDigest
  simp only []
  split <;> rfl

theorem serveDigestVisit_causesLawful (h : s.causesLawful) : s.serveDigestVisit.causesLawful := by
  have ht := settle_causesLawful h
  unfold State.serveDigestVisit
  generalize s.settle = v at ht
  simp only []
  split
  · split
    · exact h
    · exact ht.of_causes (visitDigest_causes _)
  · exact h

theorem digestResume_causes : (digestResume s).1.causes = s.causes := by
  unfold digestResume
  simp only []
  split <;> rfl

theorem reachGap_causes : s.reachGap.causes = s.causes := by
  unfold State.reachGap
  split <;> rfl

@[simp] theorem continueScan_causes : s.continueScan.causes = s.causes := by
  unfold State.continueScan
  split
  · unfold State.endScan
    split
    · rfl
    · split <;> rfl
  · rfl

/-- GRACE_EXPIRED, then WATCH (R19). -/
theorem visitGrace_causesLawful (u : UserRec) (h : s.causesLawful) : (s.visitGrace u).causesLawful := by
  unfold State.visitGrace
  split
  · exact putState_causesLawful _ _ (raise_causesLawful h .graceExpired)
  all_goals exact h

theorem scanVisit_causesLawful (h : s.causesLawful) : s.scanVisit.causesLawful := by
  cases hu : s.nextUser s.scan.cursor with
  | none =>
    rw [scanVisit_none hu]
    exact h
  | some u =>
    unfold State.scanVisit
    rw [hu]
    exact (visitGrace_causesLawful u h).of_causes continueScan_causes

theorem serveScanVisit_causesLawful (h : s.causesLawful) : s.serveScanVisit.causesLawful := by
  have ht := settle_causesLawful h
  unfold State.serveScanVisit
  generalize s.settle = v at ht
  simp only []
  split
  · exact scanVisit_causesLawful ht
  · exact h

theorem peerQuery_causes (n : Nat) : (peerQuery n s).1.causes = s.causes := by
  unfold peerQuery
  split
  · simp only []
    split <;> rfl
  · rfl

end Sys2Proof.Machine
end

section
/-! PROOFS. The Duplication Unit, the Peer Line, the Timebase and the station's own commands keep the Cause List lawful; and so does every step
(R193, R197). -/

namespace Sys2Proof.Machine

variable {s : State}

/-! ### The Duplication Unit -/

@[simp] theorem modifyWorkEpoch_causes (w : DupWork) (f : CatEntry → CatEntry) : (s.modifyWorkEpoch w f).causes = s.causes := by
  rw [modifyWorkEpoch_frame]

theorem dupExtent_causes (e : Epoch) (token : Token) (units : Nat) : (dupExtent e token units s).1.causes = s.causes := by
  unfold dupExtent
  iterate 2 (split; · rfl)
  split
  · rfl
  · iterate 3 (split; · rfl)
    rfl

theorem dupEnd_causes (e : Epoch) : (dupEnd e s).1.causes = s.causes := by
  unfold dupEnd
  split
  · rfl
  · iterate 2 (split; · rfl)
    rfl

theorem dupHalt_causes : (dupHalt s).1.causes = s.causes := by
  unfold dupHalt
  split <;> rfl

theorem windowOpen_causes : (windowOpen s).1.causes = s.causes := by
  unfold windowOpen
  split <;> rfl

theorem windowClose_causesLawful (h : s.causesLawful) : (windowClose s).1.causesLawful := by
  unfold windowClose
  split
  · exact closeWindow_causesLawful .request h
  · exact h

theorem grantHead_causes (i : Fin 8) (q : DupEntry) (rest : List DupEntry) : (grantHead i q rest s).1.causes = s.causes := by
  unfold grantHead
  split
  · rfl
  · split
    · rfl
    · exact modifyWorkEpoch_causes _ _
  · split
    · rfl
    · exact modifyWorkEpoch_causes _ _

theorem grantTake_causesLawful (h : s.causesLawful) : (grantTake s).1.causesLawful := by
  unfold grantTake
  split
  · exact h
  · split
    · exact h
    · split
      · exact h
      · split
        · exact h
        · split
          · exact closeWindow_causesLawful (s := { s with dup := _ }) .halt h
          · exact h.of_causes (grantHead_causes _ _ _)

theorem freeGrantSlot_causes (i : Fin 8) (g : Grant) : (s.freeGrantSlot i g).causes = s.causes := modifyWorkEpoch_causes _ _

theorem returnEntry_causes (w : DupWork) (retries : Nat) : (s.returnEntry w retries).causes = s.causes := by rw [returnEntry_frame]

theorem grantSucceeds_causes (i : Fin 8) (g : Grant) : (s.grantSucceeds i g).causes = s.causes := by
  have hf : (s.freeGrantSlot i g).causes = s.causes := freeGrantSlot_causes i g
  unfold State.grantSucceeds
  simp only []
  split <;> exact hf

/-- DUP_EXTENT_FAILED (R167). -/
theorem grantDropped_causesLawful (i : Fin 8) (g : Grant) (h : s.causesLawful) : (s.grantDropped i g).causesLawful := by
  have hf : ((s.freeGrantSlot i g).modifyWorkEpoch g.work (sendDropped g.work)).causesLawful :=
    h.of_causes ((modifyWorkEpoch_causes _ _).trans (freeGrantSlot_causes i g))
  unfold State.grantDropped
  simp only []
  split
  · exact hf
  · exact raise_causesLawful hf .dupExtentFailed

theorem grantDone_causesLawful (handle : Nat) (failed : Bool) (h : s.causesLawful) : (grantDone handle failed s).1.causesLawful := by
  unfold grantDone
  split
  · exact h
  · split
    · exact h
    · split
      · split
        · exact h.of_causes ((returnEntry_causes _ _).trans (freeGrantSlot_causes _ _))
        · exact grantDropped_causesLawful _ _ h
      · exact h.of_causes (grantSucceeds_causes _ _)

/-! ### The Peer Line -/

theorem startSending_causesLawful (h : s.causesLawful) : s.startSending.causesLawful := by
  have ht := settle_causesLawful h
  unfold State.startSending
  generalize s.settle = v at ht
  simp only []
  split
  · exact ht
  all_goals exact h

theorem loseArbitration_causesLawful (bit : Nat) (h : s.causesLawful) : (s.loseArbitration bit).causesLawful := by
  have ht := settle_causesLawful h
  unfold State.loseArbitration
  generalize s.settle = v at ht
  simp only []
  split
  · exact ht.of_causes abandonAttempt_causes
  · exact h

/-- ADDRESS_CLASH, met as a sender (R51). -/
theorem meetClash_causesLawful (bit : Nat) (h : s.causesLawful) : (s.meetClash bit).causesLawful := by
  have ht := settle_causesLawful h
  unfold State.meetClash
  generalize s.settle = v at ht
  simp only []
  split
  · split
    · exact h
    · exact raise_causesLawful (s := (v.endTransmission .clash).setLine _ _) (ht.of_causes (endTransmission_causes _)) .addressClash
  · exact h

theorem meetChange_causesLawful (byStart : Bool) (h : s.causesLawful) : (s.meetChange byStart).causesLawful := by
  have ht := settle_causesLawful h
  unfold State.meetChange
  generalize s.settle = v at ht
  simp only []
  split
  · split <;> exact ht.of_causes abandonAttempt_causes
  · exact h

theorem actOnSlots_causes (slotA slotR : Bool) : (s.actOnSlots slotA slotR).causes = s.causes := by
  unfold State.actOnSlots
  split
  · exact endTransmission_causes _
  · split
    · exact endTransmission_causes _
    · exact failAttempt_causes

theorem endAttempt_causesLawful (slotA slotR : Bool) (h : s.causesLawful) : (s.endAttempt slotA slotR).causesLawful := by
  have ht := settle_causesLawful h
  unfold State.endAttempt
  generalize s.settle = v at ht
  simp only []
  split
  · exact ht.of_causes (actOnSlots_causes slotA slotR)
  · exact h

/-- ADDRESS_CLASH, met as a receiver (R53). -/
theorem verdict_causesLawful (f : SampledFrame) (n : Notice) (h : s.causesLawful) : (s.verdict f n).causesLawful := by
  unfold State.verdict
  simp only []
  iterate 2 (split; · exact h)
  split
  · exact raise_causesLawful h .addressClash
  · split <;> exact h

theorem judgeFrame_causesLawful (f : SampledFrame) (h : s.causesLawful) : (s.judgeFrame f).causesLawful := by
  have ht := settle_causesLawful h
  unfold State.judgeFrame
  generalize s.settle = v at ht
  simp only []
  split
  · split
    · split
      · exact ht
      · exact verdict_causesLawful _ _ ht
    · exact h
  all_goals exact h

theorem stretchLimit_causes : s.stretchLimit.causes = s.causes := by
  unfold State.stretchLimit
  split
  · split <;> rfl
  all_goals rfl

theorem frameStops_causesLawful (served : Bool) (h : s.causesLawful) : (s.frameStops served).causesLawful := by
  have ht := settle_causesLawful h
  unfold State.frameStops
  generalize s.settle = v at ht
  simp only []
  split
  · exact h
  · exact hear_causesLawful (s := v.makeAvailable.setLine _ _) _ served ht

theorem breakFrame_causes (how : FrameBreak) : (s.breakFrame how).causes = s.causes := by
  unfold State.breakFrame
  split
  · cases how <;> rfl
  · rfl

theorem anotherStart_causes : s.anotherStart.causes = s.causes := by
  unfold State.anotherStart
  split <;> rfl

theorem strayFall_causes : s.strayFall.causes = s.causes := by
  unfold State.strayFall
  split <;> rfl

theorem busyEnds_causes : s.busyEnds.causes = s.causes := by
  unfold State.busyEnds
  split <;> rfl

theorem gapEnds_causes : s.gapEnds.causes = s.causes := by
  unfold State.gapEnds
  split <;> rfl

theorem attached_causes : s.attached.causes = s.causes := by
  unfold State.attached
  split <;> rfl

/-- LINE_STUCK (R65). -/
theorem stick_causesLawful (w : Wires) (h : s.causesLawful) : (s.stick w).causesLawful := by
  have ht := settle_causesLawful h
  unfold State.stick
  generalize s.settle = v at ht
  simp only []
  split
  · have hu : (if v.line.state = .sending then v.abandonAttempt else v).causesLawful := by
      split
      · exact ht.of_causes abandonAttempt_causes
      · exact ht
    exact raise_causesLawful (s := State.setLine _ _ (State.dropFrame _)) hu .lineStuck
  · exact h

/-- LINE_RESTORED (R66). -/
theorem unstick_causesLawful (h : s.causesLawful) : s.unstick.causesLawful := by
  have ht := settle_causesLawful h
  unfold State.unstick
  generalize s.settle = v at ht
  simp only []
  split
  · exact raise_causesLawful (s := v.setLine _ _) ht .lineRestored
  · exact h

/-! ### The Timebase -/

/-- TIMEBASE_FALLBACK with RETRY_FAILED (R177). -/
theorem switchBack_causesLawful (h : s.causesLawful) : s.switchBack.causesLawful := by
  unfold State.causesLawful
  rw [switchBack_causes]
  split
  · exact raise_causesLawful h .timebaseFallback
  · exact h

theorem beacon_causes : s.beacon.causes = s.causes := by rw [beacon_frame]

theorem windowBoundary_causes : s.windowBoundary.causes = s.causes := by rw [windowBoundary_frame]

theorem boundaryOffers_causesLawful (windowFirst : Bool) (h : s.causesLawful) : (s.boundaryOffers windowFirst).causesLawful := by
  unfold State.boundaryOffers
  split
  · exact (expireWindow_causesLawful (h.of_causes windowBoundary_causes)).of_causes beacon_causes
  · exact h.of_causes (windowBoundary_causes.trans beacon_causes)

theorem startScan_causes : s.startScan.causes = s.causes := by
  unfold State.startScan
  split
  · rfl
  · exact continueScan_causes

theorem boundary_causesLawful (windowFirst : Bool) (h : s.causesLawful) : (s.boundary windowFirst).causesLawful := by
  have ht := settle_causesLawful h
  unfold State.boundary
  generalize s.settle = v at ht
  have hback : v.advanceFrame.switchBack.causesLawful := switchBack_causesLawful (s := v.advanceFrame) ht
  have hoffers := boundaryOffers_causesLawful (s := v.advanceFrame.switchBack.agePeers) windowFirst hback
  generalize v.advanceFrame.switchBack.agePeers.boundaryOffers windowFirst = u at hoffers
  exact State.causesLawful.of_causes (s := u.tickCatalogue.tickJobs) hoffers startScan_causes

theorem frameExpiry_causesLawful (windowFirst : Bool) (h : s.causesLawful) : (s.frameExpiry windowFirst).causesLawful := by
  unfold State.frameExpiry
  split
  · exact h
  · exact boundary_causesLawful windowFirst h

/-- TIMEBASE_FALLBACK with LOST (R175). -/
theorem fallBack_causesLawful (count : Nat) (h : s.causesLawful) : (s.fallBack count).causesLawful :=
  raise_causesLawful (s := { s with tb := _ }) h .timebaseFallback

theorem loseReference_causesLawful (count : Nat) (windowFirst : Bool) (h : s.causesLawful) :
    (s.loseReference count windowFirst).causesLawful := by
  have ht : (s.settle.fallBack count).causesLawful := fallBack_causesLawful count (settle_causesLawful h)
  unfold State.loseReference
  split
  · simp only []
    split
    · exact boundary_causesLawful windowFirst ht
    · exact ht
  · exact h

theorem referenceAbsent_causes : s.referenceAbsent.causes = s.causes := by
  unfold State.referenceAbsent
  split <;> rfl

theorem timebaseRetry_causes : (timebaseRetry s).1.causes = s.causes := by
  unfold timebaseRetry
  split <;> rfl

/-! ### The station's own commands -/

/-- TIMEBASE_FALLBACK with ABSENT_AT_START (R178). -/
theorem accept_causesLawful (c : Settings) (h : s.causesLawful) : (s.accept c).causesLawful := by
  unfold State.accept
  simp only []
  split
  · exact h
  · exact raise_causesLawful (s := { s with cfg := _, link := _, digest := _, line := _, tb := _ }) h .timebaseFallback

theorem configure_causesLawful (c : Settings) (h : s.causesLawful) : (configure c s).1.causesLawful := by
  unfold configure
  split
  · exact h
  · split
    · exact accept_causesLawful c h
    · exact h

/-- READ-CAUSE takes a record from the list (R199). -/
theorem readCause_causesLawful (h : s.causesLawful) : (readCause s).1.causesLawful := CausesLawful.sublist h (dropNextCause_sublist _)

/-- RESTART empties the list (R200). -/
theorem takeRestart_causesLawful : s.takeRestart.causesLawful := by
  unfold State.takeRestart
  exact causesLawful_of_empty finishRestart_causes

theorem handOver_causesLawful (r : Request) (h : s.causesLawful) : (handOver r s).causesLawful := by
  cases r with
  | nop => exact h
  | configure c => exact takeAtOnce_causesLawful _ (fun _ => configure_causesLawful c) h
  | restart => exact takeRestart_causesLawful
  | stationQuery => exact takeAtOnce_causesLawful _ (fun _ ht => ht) h
  | readCause => exact takeAtOnce_causesLawful _ (fun _ => readCause_causesLawful) h
  | timebaseRetry => exact takeAtOnce_causesLawful _ (fun _ ht => ht.of_causes timebaseRetry_causes) h
  | access a => exact takeAccess_causesLawful a h
  | peerQuery st => exact takeAtOnce_causesLawful _ (fun _ ht => ht.of_causes (peerQuery_causes st)) h
  | peerDrop st => exact takeAtOnce_causesLawful _ (fun _ => peerDrop_causesLawful st) h
  | digestHold => exact takeAtOnce_causesLawful _ (fun _ ht => ht) h
  | digestResume => exact takeAtOnce_causesLawful _ (fun _ ht => ht.of_causes digestResume_causes) h
  | snapTake => exact takeAtOnce_causesLawful _ (fun _ ht => ht.of_causes snapTake_causes) h
  | snapReady e => exact takeAtOnce_causesLawful _ (fun _ => snapReady_causesLawful e) h
  | snapQuery e m => exact takeAtOnce_causesLawful _ (fun _ ht => ht) h
  | snapExpire e d => exact takeAtOnce_causesLawful _ (fun _ => snapExpire_causesLawful e d) h
  | dupExtent e t n => exact takeAtOnce_causesLawful _ (fun _ ht => ht.of_causes (dupExtent_causes e t n)) h
  | dupEnd e => exact takeAtOnce_causesLawful _ (fun _ ht => ht.of_causes (dupEnd_causes e)) h
  | dupHalt => exact takeAtOnce_causesLawful _ (fun _ ht => ht.of_causes dupHalt_causes) h
  | windowOpen => exact takeAtOnce_causesLawful _ (fun _ ht => ht.of_causes windowOpen_causes) h
  | windowClose => exact takeAtOnce_causesLawful _ (fun _ => windowClose_causesLawful) h
  | grantTake => exact takeAtOnce_causesLawful _ (fun _ => grantTake_causesLawful) h
  | grantDone x f => exact takeAtOnce_causesLawful _ (fun _ => grantDone_causesLawful x f) h
  | dupQuery => exact takeAtOnce_causesLawful _ (fun _ ht => ht) h

/-- The end of a transaction, its request handed over (R182, R183). -/
theorem endTransaction_causesLawful (record : Record) (trailing : Bool) (h : s.causesLawful) :
    (s.endTransaction record trailing handOver).causesLawful :=
  endTransaction_keeps State.causesLawful handOver (fun _ _ _ ht => ht) (fun _ _ ht => ht) (fun _ _ _ _ _ ht => ht)
    (fun r _ _ => handOver_causesLawful r) record trailing s h

theorem startTransaction_causes : s.startTransaction.causes = s.causes := by
  unfold State.startTransaction
  split
  · rfl
  · split <;> rfl

theorem releaseReset_causes (straps : Station) : (s.releaseReset straps).causes = s.causes := by
  unfold State.releaseReset
  split <;> rfl

/-! ### Every step -/

/-- The access of a waiting request, by the request. -/
theorem accessAnswer_causesLawful (a : Access) (h : s.causesLawful) : (accessAnswer a s).1.causesLawful := by
  cases a with
  | charge n k => exact chargeAccess_causesLawful n k h
  | credit n k => exact creditAccess_causesLawful n k h
  | userLoad n soft hard live => exact h.of_causes (userLoadAccess_causes n soft hard live)
  | userLimits n soft hard => exact userLimitsAccess_causesLawful n soft hard h
  | userFreeze n => exact userFreezeAccess_causesLawful n h
  | userThaw n => exact userThawAccess_causesLawful n h
  | userRetire n => exact userRetireAccess_causesLawful n h
  | userQuery n => exact withUser_causesLawful _ _ (fun _ => h) h
  | userResync n => exact userResyncAccess_causesLawful n h
  | userWatch n => exact userWatchAccess_causesLawful n h
  | userUnwatch n => exact withUser_causesLawful _ _ (fun _ => h) h
  | hold n e k => exact holdAccess_causesLawful n e k h
  | restoreBegin n e k => exact restoreBeginAccess_causesLawful n e k h
  | restoreProgress x k => exact restoreProgressAccess_causesLawful x k h
  | restoreEnd x => exact restoreEndAccess_causesLawful x h

/-- A command that ends a transaction with its request. -/
theorem exec_request_causesLawful (r : Request) (h : s.causesLawful) : ∃ t, exec r.command s = .next t ∧ t.causesLawful :=
  ⟨_, exec_command s r, endTransaction_causesLawful (.request r) false h⟩

/-- A command that serves a waiting access. -/
theorem exec_access_causesLawful (a : Access) (h : s.causesLawful) : ∃ t, exec a.command s = .next t ∧ t.causesLawful :=
  ⟨_, exec_access a s, accessRequest_causesLawful a (fun _ => accessAnswer_causesLawful a) h⟩

/-- Every command keeps the Cause List lawful. -/
theorem exec_causesLawful (c : Instr) (h : s.causesLawful) : ∃ t, exec c s = .next t ∧ t.causesLawful := by
  cases c with
  -- Power, RESET and the edges of a transaction.
  | powerOn refclk => exact ⟨_, rfl, causesLawful_of_empty rfl⟩
  | resetPinAssert => exact ⟨_, rfl, causesLawful_of_empty rfl⟩
  | resetPinRelease straps => exact ⟨_, rfl, h.of_causes (releaseReset_causes straps)⟩
  | transactionStart => exact ⟨_, rfl, h.of_causes startTransaction_causes⟩
  | replyDelivered =>
    refine ⟨_, rfl, ?_⟩
    split <;> exact h
  | linkTransactionOther edges ldi => exact ⟨_, rfl, endTransaction_causesLawful _ _ h⟩
  -- The requests.
  | localRequestTaken a => exact exec_request_causesLawful (.access a) h
  | nop => exact exec_request_causesLawful .nop h
  | configure c => exact exec_request_causesLawful (.configure c) h
  | restart => exact exec_request_causesLawful .restart h
  | stationQuery => exact exec_request_causesLawful .stationQuery h
  | readCause => exact exec_request_causesLawful .readCause h
  | timebaseRetry => exact exec_request_causesLawful .timebaseRetry h
  | peerQuery st => exact exec_request_causesLawful (.peerQuery st) h
  | peerDrop st => exact exec_request_causesLawful (.peerDrop st) h
  | digestHold => exact exec_request_causesLawful .digestHold h
  | digestResume => exact exec_request_causesLawful .digestResume h
  | snapTake => exact exec_request_causesLawful .snapTake h
  | snapReady e => exact exec_request_causesLawful (.snapReady e) h
  | snapQuery e m => exact exec_request_causesLawful (.snapQuery e m) h
  | snapExpire e d => exact exec_request_causesLawful (.snapExpire e d) h
  | dupExtent e t n => exact exec_request_causesLawful (.dupExtent e t n) h
  | dupEnd e => exact exec_request_causesLawful (.dupEnd e) h
  | dupHalt => exact exec_request_causesLawful .dupHalt h
  | windowOpen => exact exec_request_causesLawful .windowOpen h
  | windowClose => exact exec_request_causesLawful .windowClose h
  | grantTake => exact exec_request_causesLawful .grantTake h
  | grantDone x f => exact exec_request_causesLawful (.grantDone x f) h
  | dupQuery => exact exec_request_causesLawful .dupQuery h
  -- The accesses of waiting requests, and the other clients of class 1.
  | charge n k => exact exec_access_causesLawful (.charge n k) h
  | credit n k => exact exec_access_causesLawful (.credit n k) h
  | userLoad n soft hard live => exact exec_access_causesLawful (.userLoad n soft hard live) h
  | userLimits n soft hard => exact exec_access_causesLawful (.userLimits n soft hard) h
  | userFreeze n => exact exec_access_causesLawful (.userFreeze n) h
  | userThaw n => exact exec_access_causesLawful (.userThaw n) h
  | userRetire n => exact exec_access_causesLawful (.userRetire n) h
  | userQuery n => exact exec_access_causesLawful (.userQuery n) h
  | userResync n => exact exec_access_causesLawful (.userResync n) h
  | userWatch n => exact exec_access_causesLawful (.userWatch n) h
  | userUnwatch n => exact exec_access_causesLawful (.userUnwatch n) h
  | hold n e k => exact exec_access_causesLawful (.hold n e k) h
  | restoreBegin n e k => exact exec_access_causesLawful (.restoreBegin n e k) h
  | restoreProgress x k => exact exec_access_causesLawful (.restoreProgress x k) h
  | restoreEnd x => exact exec_access_causesLawful (.restoreEnd x) h
  | idleTimeoutRelease => exact ⟨_, rfl, serveIdleRelease_causesLawful h⟩
  | restartRelease => exact ⟨_, rfl, serveRestartRelease_causesLawful h⟩
  -- Frame boundaries, and what follows them.
  | frameBoundary windowFirst => exact ⟨_, rfl, frameExpiry_causesLawful windowFirst h⟩
  | peerGoneAge st => exact ⟨_, rfl, agePeer_causesLawful st h⟩
  | askTimerExpiry => exact ⟨_, rfl, expireAsk_causesLawful h⟩
  | closeTimerExpiry e => exact ⟨_, rfl, expireClose_causesLawful e h⟩
  | idleLimitReached slot =>
    refine ⟨_, rfl, ?_⟩
    split
    · exact h.of_causes (offerRelease_causes slot)
    · exact h
  | windowLimitExpiry => exact ⟨_, rfl, expireWindow_causesLawful h⟩
  | gapTimerReached => exact ⟨_, rfl, h.of_causes reachGap_causes⟩
  | referenceFallback count windowFirst => exact ⟨_, rfl, loseReference_causesLawful count windowFirst h⟩
  | referenceEdgeReturns => exact ⟨_, rfl, h⟩
  | referenceMonitorAbsent => exact ⟨_, rfl, h.of_causes referenceAbsent_causes⟩
  -- The scans and the sweeps.
  | graceScanVisit => exact ⟨_, rfl, serveScanVisit_causesLawful h⟩
  | digestSweepVisit => exact ⟨_, rfl, serveDigestVisit_causesLawful h⟩
  | expirySweepStep => exact ⟨_, rfl, serveExpiryStep_causesLawful h⟩
  | dropSweepStep => exact ⟨_, rfl, serveDropStep_causesLawful h⟩
  -- The receipts.
  | usageReceipt => exact ⟨_, rfl, serveUsage_causesLawful h⟩
  | epochProposeReceipt => exact ⟨_, rfl, receive_causesLawful _ (fun st e _ => receiveProposal_causesLawful st e) h⟩
  | epochReadyReceipt => exact ⟨_, rfl, receive_causesLawful _ (fun st e _ => receiveReady_causesLawful st e) h⟩
  | epochLatestReceipt => exact ⟨_, rfl, receive_causesLawful _ (fun _ l _ => hearLatest_causesLawful l) h⟩
  | shareReceipt => exact ⟨_, rfl, receive_causesLawful _ (fun _ _ _ ht => ht) h⟩
  | presenceReceipt => exact ⟨_, rfl, receive_causesLawful _ (fun st l _ => receivePresence_causesLawful st l) h⟩
  -- The Peer Line.
  | noticeSendStart => exact ⟨_, rfl, startSending_causesLawful h⟩
  | arbitrationLost bit => exact ⟨_, rfl, loseArbitration_causesLawful bit h⟩
  | stationNumberClash bit => exact ⟨_, rfl, meetClash_causesLawful bit h⟩
  | sendAttemptEnd slotA slotR => exact ⟨_, rfl, endAttempt_causesLawful slotA slotR h⟩
  | retiringRecordFreed n => exact ⟨_, rfl, h.of_causes (freeRetired_causes n)⟩
  | reportDueAfterLoss n => exact ⟨_, rfl, h.of_causes (dueAfterLoss_causes n)⟩
  | noticeVerdict frame => exact ⟨_, rfl, judgeFrame_causesLawful frame h⟩
  | stretchTimeout => exact ⟨_, rfl, h.of_causes stretchLimit_causes⟩
  | stretchEntryFreed => exact ⟨_, rfl, h.of_causes takeStretched_causes⟩
  | noticeAvailable served => exact ⟨_, rfl, frameStops_causesLawful served h⟩
  | frameBroken how => exact ⟨_, rfl, h.of_causes (breakFrame_causes how)⟩
  | strayClocking => exact ⟨_, rfl, h.of_causes strayFall_causes⟩
  | busyTimeout => exact ⟨_, rfl, h.of_causes busyEnds_causes⟩
  | idleGapEnd => exact ⟨_, rfl, h.of_causes gapEnds_causes⟩
  | attachmentEnd => exact ⟨_, rfl, h.of_causes attached_causes⟩
  | lineStuck wires => exact ⟨_, rfl, stick_causesLawful wires h⟩
  | lineRestored => exact ⟨_, rfl, unstick_causesLawful h⟩
  | anotherStationStart => exact ⟨_, rfl, h.of_causes anotherStart_causes⟩
  | attemptAbandoned byStart => exact ⟨_, rfl, meetChange_causesLawful byStart h⟩

/-- Settles O56: the law holds of the machine with the queue's rest, and the command at the front keeps it. -/
theorem everyStepKeepsTheCauseListLawful : Obligations.EveryStepKeepsTheCauseListLawful := by
  intro s t h hstep
  unfold step at hstep
  split at hstep
  · cases hstep
    exact h
  · rename_i c rest hp
    obtain ⟨u, hu, hl⟩ := exec_causesLawful (s := { s with pending := rest }) c h
    cases hu.symm.trans hstep
    exact hl

end Sys2Proof.Machine
end

section
/-! PROOFS. Raising a cause case by case (R193 to R198), and READ-CAUSE (R199). -/

namespace Sys2Proof.Machine

/-! ### Raising (R195 to R197) -/

/-- The last element that meets `p`, where those after it do not. -/
theorem modifyLast_at {α : Type} {p : α → Bool} (f : α → α) {a b : List α} {x : α} (hb : ∀ y ∈ b, p y = false) (hx : p x = true) :
    modifyLast p f (a ++ x :: b) = a ++ f x :: b := by
  have hrev : (a ++ x :: b).reverse = b.reverse ++ x :: a.reverse := by simp
  rw [modifyLast, hrev, modifyFirst_at f (by simpa using hb) hx]
  simp

theorem not_any_of {α : Type} {p : α → Prop} [DecidablePred p] {l : List α} (h : ∀ x ∈ l, ¬p x) :
    ¬(l.any fun x => decide (p x)) = true := by
  simpa using h

section Raise

variable {f : FrameNo} {c : Cause} {a b l : List CauseRec} {r : CauseRec}

/-- A cause merges into the record of its kind and subject (R195). -/
theorem raiseIn_same (hkind : r.kind = c.kind) (hsubject : r.subject = c.subject) (ha : ∀ x ∈ a, ¬(x.kind = c.kind ∧ x.subject = c.subject)) :
    raiseIn f c (a ++ r :: b) = a ++ mergeSame f c r :: b := by
  rw [raiseIn, if_pos (by simp [hkind, hsubject]), modifyFirst_at _ (by simpa using ha) (by simp [hkind, hsubject])]

/-- A cause without a record of its own is appended while there is room (R195). -/
theorem raiseIn_room (hnew : ∀ x ∈ l, ¬(x.kind = c.kind ∧ x.subject = c.subject)) (hroom : l.length < Config.causeSlots) :
    raiseIn f c l = l ++ [newRecord f c] := by
  rw [raiseIn, if_neg (not_any_of hnew), if_pos hroom]

/-! In a full list, a cause without a record of its own. -/

section Full

variable (hnew : ∀ x ∈ a ++ r :: b, ¬(x.kind = c.kind ∧ x.subject = c.subject)) (hfull : Config.causeSlots ≤ (a ++ r :: b).length)
include hnew hfull

/-- In a full list a cause merges into the record of its kind with subject SEVERAL (R196). -/
theorem raiseIn_several (hkind : r.kind = c.kind) (hsubject : r.subject = .several)
    (ha : ∀ x ∈ a, ¬(x.kind = c.kind ∧ x.subject = .several)) : raiseIn f c (a ++ r :: b) = a ++ mergeSeveral f c r :: b := by
  rw [raiseIn, if_neg (not_any_of hnew), if_neg (Nat.not_lt.2 hfull), if_pos (by simp [hkind, hsubject]),
    modifyFirst_at _ (by simpa using ha) (by simp [hkind, hsubject])]

/-- Without one it merges into the newest record of its kind (R196). -/
theorem raiseIn_newest (hkind : r.kind = c.kind) (hb : ∀ x ∈ b, x.kind ≠ c.kind)
    (hone : ∀ x ∈ a ++ r :: b, ¬(x.kind = c.kind ∧ x.subject = .several)) :
    raiseIn f c (a ++ r :: b) = a ++ mergeSeveral f c r :: b := by
  rw [raiseIn, if_neg (not_any_of hnew), if_neg (Nat.not_lt.2 hfull), if_neg (not_any_of hone), if_pos (by simp [hkind]),
    modifyLast_at _ (by simpa using hb) (by simp [hkind])]

variable (hkinds : ∀ x ∈ a ++ r :: b, x.kind ≠ c.kind)
include hkinds

/-- Without a record of its kind it merges into the MIXED record (R197). -/
theorem raiseIn_mixed (hmixed : r.kind = .mixed) (ha : ∀ x ∈ a, x.kind ≠ .mixed) :
    raiseIn f c (a ++ r :: b) = a ++ mergeMixed f c r :: b := by
  rw [raiseIn, if_neg (not_any_of hnew), if_neg (Nat.not_lt.2 hfull), if_neg (not_any_of fun x hx h => hkinds x hx h.1),
    if_neg (not_any_of hkinds), if_pos (by simp [hmixed]), modifyFirst_at _ (by simpa using ha) (by simp [hmixed])]

/-- Without a MIXED record the newest record becomes one (R197). -/
theorem raiseIn_becomesMixed (hmixed : ∀ x ∈ a ++ r :: b, x.kind ≠ .mixed) (hb : b = []) :
    raiseIn f c (a ++ r :: b) = a ++ mergeMixed f c r :: b := by
  subst hb
  rw [raiseIn, if_neg (not_any_of hnew), if_neg (Nat.not_lt.2 hfull), if_neg (not_any_of fun x hx h => hkinds x hx h.1),
    if_neg (not_any_of hkinds), if_neg (not_any_of hmixed), modifyLast_at _ (by simp) rfl]

end Full

end Raise

/-- The urgent kinds (R194). -/
theorem urgent_iff (k : CauseKind) :
    k.urgent = true ↔ k = .lineStuck ∨ k = .addressClash ∨ k = .timebaseFallback ∨ k = .catalogueFull := by
  cases k <;> simp [CauseKind.urgent]

/-- ATTN is asserted while the list holds a record (R198). -/
theorem attn_iff (s : State) : s.attn = true ↔ s.causes ≠ [] := by simp [State.attn]

/-! ### READ-CAUSE (R199) -/

section Read

variable {a b : List CauseRec} {r : CauseRec} {s : State}

theorem nextCause_urgent (hr : r.urgent = true) (ha : ∀ x ∈ a, x.urgent = false) : nextCause (a ++ r :: b) = some r := by
  rw [nextCause, find_at ha hr]

theorem dropNextCause_urgent (hr : r.urgent = true) (ha : ∀ x ∈ a, x.urgent = false) : dropNextCause (a ++ r :: b) = a ++ b := by
  rw [dropNextCause, if_pos (by simp [hr]), List.eraseP_append_right _ (by simpa using ha), List.eraseP_cons_of_pos hr]

theorem nextCause_ordinary (h : ∀ x ∈ b, x.urgent = false) : nextCause b = b.head? := by
  have hnone : b.find? (fun x => x.urgent) = none := by simpa using h
  rw [nextCause, hnone]

theorem dropNextCause_ordinary (h : ∀ x ∈ b, x.urgent = false) : dropNextCause b = b.tail := by
  rw [dropNextCause, if_neg (by simpa using h)]

/-- READ-CAUSE is taken in both station states (R182, R199). -/
theorem exec_readCause (h : s.listens) :
    exec .readCause s =
      .next (State.answer (readCause s.atTaking).2.1 4 false (readCause s.atTaking).2.2 (readCause s.atTaking).1) :=
  exec_takenAtOnce (r := .readCause) (handle := readCause) h (.inr rfl) rfl (by simp)

/-- The oldest urgent record is returned (R199). -/
theorem readCause_urgent (hs : s.causes = a ++ r :: b) (hr : r.urgent = true) (ha : ∀ x ∈ a, x.urgent = false) :
    readCause s =
      ({ s with causes := a ++ b }, .ok, .readCause (some r) (a ++ b).length ((a ++ b).filter fun x => x.urgent).length) := by
  unfold readCause
  simp only [hs, nextCause_urgent hr ha, dropNextCause_urgent hr ha]

/-- Without an urgent record the oldest is returned, or none from an empty list (R199). -/
theorem readCause_ordinary (h : ∀ x ∈ s.causes, x.urgent = false) :
    readCause s = ({ s with causes := s.causes.tail }, .ok, .readCause s.causes.head? s.causes.tail.length 0) := by
  have hnone : s.causes.tail.filter (fun x => x.urgent) = [] := by simpa using fun x hx => h x (List.mem_of_mem_tail hx)
  unfold readCause
  simp only [nextCause_ordinary h, dropNextCause_ordinary h, hnone, List.length_nil]

end Read

/-- Settles O13: raising by the record that takes the cause, and READ-CAUSE by whether an urgent record stands in the list. -/
theorem causesMergeOnRaisingAndAreRead : Obligations.CausesMergeOnRaisingAndAreRead := by
  refine ⟨fun f c a b r => ⟨fun h ha => raiseIn_same h.1 h.2 ha, fun hnew hfull => ⟨?_, ?_, ?_, ?_⟩⟩, fun f c l => raiseIn_room,
    fun s kind subject value => ⟨rfl, urgent_iff kind, attn_iff s⟩, fun s hs => ?_⟩
  · exact raiseIn_several hnew hfull
  · exact raiseIn_newest hnew hfull
  · exact raiseIn_mixed hnew hfull
  · exact raiseIn_becomesMixed hnew hfull
  · have hexec := exec_readCause hs
    generalize s.atTaking = v at *
    refine ⟨fun a b r hv hr ha => ?_, fun r b hv hb => ?_, fun hv => ?_⟩
    · rw [hexec, readCause_urgent hv hr ha]
    · rw [hexec, readCause_ordinary (hv ▸ hb), hv]
      rfl
    · have hempty : { v with causes := [] } = v := by rw [← hv]
      rw [hexec, readCause_ordinary (by simp [hv]), hv, List.tail_nil, hempty]
      rfl

end Sys2Proof.Machine
end

section
/-! PROOFS. The outbound queue, the follow-on steps, the accesses of chapter 2, the holds, the restores, the snapshots and the Peer View leave the
queue of commands alone (log 3, log 4). -/

namespace Sys2Proof.Machine

variable {s t : State}

/-! ### The outbound queue and the follow-on steps -/

theorem pending_of_outmost (h : t.outmost = s.outmost) : t.pending = s.pending := by
  obtain ⟨-, -, -, -, -, -, hpending, -⟩ := outmost_parts h
  exact hpending

theorem pending_of_outer (h : t.outer = s.outer) : t.pending = s.pending := pending_of_outmost (outmost_of_outer h)

theorem placeNow_pending {n : Nat} (h : s.placeNow n = some t) : t.pending = s.pending := pending_of_outer (placeNow_outer h)

@[simp] theorem withdraw_pending (p : Notice → Bool) : (s.withdraw p).pending = s.pending := pending_of_outer (withdraw_outer p s)
@[simp] theorem offerEpoch_pending (n : Notice) : (s.offerEpoch n).pending = s.pending := pending_of_outer (offerEpoch_outer n s)
@[simp] theorem endTransmission_pending (e : NoticeEnd) : (s.endTransmission e).pending = s.pending :=
  pending_of_outer (endTransmission_outer e s)
@[simp] theorem failAttempt_pending : s.failAttempt.pending = s.pending := pending_of_outer (failAttempt_outer s)
@[simp] theorem abandonAttempt_pending : s.abandonAttempt.pending = s.pending := pending_of_outer (abandonAttempt_outer s)
@[simp] theorem closeTest_pending (e : Epoch) : (s.closeTest e).pending = s.pending := pending_of_outer (closeTest_outer e s)
@[simp] theorem abandonAsked_pending (b : Bool) : (s.abandonAsked b).pending = s.pending := pending_of_outer (abandonAsked_outer b s)
@[simp] theorem agePeer_pending (st : Station) : (s.agePeer st).pending = s.pending := pending_of_outer (agePeer_outer st s)
@[simp] theorem expireAsk_pending : s.expireAsk.pending = s.pending := pending_of_outer (expireAsk_outer s)
@[simp] theorem expireClose_pending (e : Epoch) : (s.expireClose e).pending = s.pending := pending_of_outer (expireClose_outer e s)
@[simp] theorem offerRelease_pending (i : Fin 8) : (s.offerRelease i).pending = s.pending := pending_of_outer (offerRelease_outer i s)
@[simp] theorem expireWindow_pending : s.expireWindow.pending = s.pending := pending_of_outer (expireWindow_outer s)
@[simp] theorem takeStretched_pending : s.takeStretched.pending = s.pending := pending_of_outer (takeStretched_outer s)
@[simp] theorem dueAfterLoss_pending (n : Nat) : (s.dueAfterLoss n).pending = s.pending := pending_of_outer (dueAfterLoss_outer n s)
@[simp] theorem freeRetired_pending (n : Nat) : (s.freeRetired n).pending = s.pending := pending_of_outmost (freeRetired_outmost n s)

/-! ### The accesses of chapter 2 -/

/-- An access after the checks of R25: only the work on a record that was found changes the state. -/
theorem withUser_pending (n : Nat) (refused : UserBlock → ReplyBody) {act : UserRec → State → Answer}
    (hAct : ∀ u, (act u s).1.pending = s.pending) : (s.withUser n refused act).1.pending = s.pending := by
  unfold State.withUser
  split
  · rfl
  · split
    · rfl
    · exact hAct _

theorem chargeAccess_pending (n k : Nat) : (chargeAccess n k s).1.pending = s.pending := by
  unfold chargeAccess
  split
  · rfl
  · refine withUser_pending _ _ fun u => ?_
    simp only []
    split <;> rfl

theorem creditAccess_pending (n k : Nat) : (creditAccess n k s).1.pending = s.pending := by
  unfold creditAccess
  iterate 2 (split; · rfl)
  exact withUser_pending _ _ fun _ => rfl

theorem userLoadAccess_pending (n soft hard live : Nat) : (userLoadAccess n soft hard live s).1.pending = s.pending := by
  unfold userLoadAccess
  iterate 2 (split; · rfl)
  split <;> split <;> rfl

theorem userLimitsAccess_pending (n soft hard : Nat) : (userLimitsAccess n soft hard s).1.pending = s.pending := by
  unfold userLimitsAccess
  iterate 2 (split; · rfl)
  exact withUser_pending _ _ fun _ => rfl

theorem userFreezeAccess_pending (n : Nat) : (userFreezeAccess n s).1.pending = s.pending := withUser_pending _ _ fun _ => rfl

theorem userThawAccess_pending (n : Nat) : (userThawAccess n s).1.pending = s.pending := by
  refine withUser_pending _ _ fun u => ?_
  simp only []
  split <;> rfl

theorem beginRetiring_pending (u : UserRec) : (s.beginRetiring u).pending = s.pending := by
  unfold State.beginRetiring
  simp only []
  split
  · rename_i placed hp
    rw [placeNow_pending hp, putState_pending]
  · rfl

theorem retireNow_pending (owed : Bool) (n : Nat) : (s.retireNow owed n).pending = s.pending := by
  unfold State.retireNow
  split
  · cases hp : s.placeNow n with
    | none => rfl
    | some t => exact (freeUser_pending t n).trans (placeNow_pending hp)
  · rfl

theorem userRetireAccess_pending (n : Nat) : (userRetireAccess n s).1.pending = s.pending := by
  refine withUser_pending _ _ fun u => ?_
  simp only []
  split
  · rfl
  · split
    · exact beginRetiring_pending u
    · exact retireNow_pending _ _

theorem userResyncAccess_pending (n : Nat) : (userResyncAccess n s).1.pending = s.pending := withUser_pending _ _ fun _ => rfl

theorem userWatchAccess_pending (n : Nat) : (userWatchAccess n s).1.pending = s.pending := by
  refine withUser_pending _ _ fun u => ?_
  split
  · rfl
  · split <;> rfl

theorem userUnwatchAccess_pending (n : Nat) : (userUnwatchAccess n s).1.pending = s.pending := withUser_pending _ _ fun _ => rfl

/-! ### Holds -/

theorem holdAccess_pending (n : Nat) (e : Epoch) (k : Nat) : (holdAccess n e k s).1.pending = s.pending := by
  unfold holdAccess
  iterate 2 (split; · rfl)
  refine withUser_pending _ _ fun u => ?_
  simp only []
  split
  · rfl
  · iterate 5 (split; · rfl)
    rfl

@[simp] theorem completeExpiry_pending (e : Epoch) (k : Nat) : (s.completeExpiry e k).pending = s.pending := rfl

@[simp] theorem continueExpiry_pending (e : Epoch) (k : Nat) : (s.continueExpiry e k).pending = s.pending := by
  unfold State.continueExpiry
  split <;> rfl

theorem beginExpiry_pending (e : Epoch) (discard : Bool) : (s.beginExpiry e discard).pending = s.pending := by
  unfold State.beginExpiry
  rw [continueExpiry_pending]
  split <;> rfl

theorem snapExpire_pending (e : Epoch) (discard : Bool) : (snapExpire e discard s).1.pending = s.pending := by
  unfold snapExpire
  split
  · rfl
  · split
    · exact beginExpiry_pending e discard
    · rfl

theorem releaseHold_pending (x : Hold) : (s.releaseHold x).pending = s.pending := by
  unfold State.releaseHold
  simp only []
  split <;> rfl

theorem expiryStep_pending (e : Epoch) (k : Nat) : (s.expiryStep e k).pending = s.pending := by
  unfold State.expiryStep
  split
  · exact completeExpiry_pending e k
  · rw [continueExpiry_pending, releaseHold_pending]

theorem serveExpiryStep_pending : s.serveExpiryStep.pending = s.pending := by
  unfold State.serveExpiryStep
  simp only []
  split
  · split
    · rw [expiryStep_pending, settle_pending]
    · rfl
  all_goals rfl

/-! ### Restores -/

theorem restoreBeginAccess_pending (n : Nat) (e : Epoch) (k : Nat) : (restoreBeginAccess n e k s).1.pending = s.pending := by
  unfold restoreBeginAccess
  iterate 2 (split; · rfl)
  refine withUser_pending _ _ fun u => ?_
  simp only []
  split
  · rfl
  · iterate 2 (split; · rfl)
    split
    · rfl
    · split <;> rfl

@[simp] theorem changeJobUser_pending (n : Nat) (f : UserRec → UserRec) : (s.changeJobUser n f).pending = s.pending := by
  unfold State.changeJobUser
  split <;> rfl

theorem restoreProgressAccess_pending (handle k : Nat) : (restoreProgressAccess handle k s).1.pending = s.pending := by
  unfold restoreProgressAccess
  iterate 3 (split; · rfl)
  split
  · rfl
  · exact changeJobUser_pending _ _

theorem endJob_pending (i : Fin 8) (j : Job) : (s.endJob i j).pending = s.pending := changeJobUser_pending _ _

theorem restoreEndAccess_pending (handle : Nat) : (restoreEndAccess handle s).1.pending = s.pending := by
  unfold restoreEndAccess
  split
  · rfl
  · split
    · rfl
    · exact endJob_pending _ _

theorem idleRelease_pending (i gen : Fin 8) : (s.idleRelease i gen).pending = s.pending := by
  unfold State.idleRelease
  split
  · rfl
  · split
    · exact endJob_pending _ _
    · rfl

theorem serveIdleRelease_pending : s.serveIdleRelease.pending = s.pending := by
  unfold State.serveIdleRelease
  simp only []
  split
  · rw [idleRelease_pending, settle_pending]
  all_goals rfl

theorem restartRelease_pending (i gen : Fin 8) : (s.restartRelease i gen).pending = s.pending := by
  unfold State.restartRelease
  split
  · rfl
  · exact endJob_pending _ _

theorem finishRestart_pending : s.finishRestart.pending = s.pending := by
  unfold State.finishRestart
  split
  · rfl
  · split
    · rfl
    · split <;> rfl

theorem serveRestartRelease_pending : s.serveRestartRelease.pending = s.pending := by
  unfold State.serveRestartRelease
  simp only []
  split
  · rw [finishRestart_pending, restartRelease_pending, settle_pending]
  all_goals rfl

/-! ### Snapshots -/

theorem snapTake_pending : (snapTake s).1.pending = s.pending := by
  unfold snapTake
  iterate 3 (split; · rfl)
  exact offerEpoch_pending _

theorem snapReady_pending (e : Epoch) : (snapReady e s).1.pending = s.pending := by
  unfold snapReady
  split
  · rfl
  · split
    · exact (closeTest_pending e).trans (offerEpoch_pending _)
    · rfl

theorem enterProposal_pending (st : Station) (e : Epoch) (early : StationSet) : (s.enterProposal st e early).pending = s.pending := by
  unfold State.enterProposal
  split <;> rfl

theorem newProposal_pending (st : Station) (e : Epoch) (early : StationSet) : (s.newProposal st e early).pending = s.pending := by
  unfold State.newProposal
  split
  · exact (enterProposal_pending st e early).trans (abandonAsked_pending true)
  · rfl

theorem answerStale_pending (l : Epoch) : (s.answerStale l).pending = s.pending := by
  unfold State.answerStale
  split
  · rfl
  · rw [offerEpoch_pending, withdraw_pending]

theorem receiveProposal_pending (st : Station) (e : Epoch) : (receiveProposal st e s).pending = s.pending := by
  unfold receiveProposal
  split
  · exact newProposal_pending _ _ _
  · split
    · rfl
    · split
      · exact withdraw_pending _
      · exact answerStale_pending _

theorem receiveReady_pending (st : Station) (e : Epoch) : (receiveReady st e s).pending = s.pending := by
  unfold receiveReady
  split
  · exact closeTest_pending e
  · split
    · exact newProposal_pending _ _ _
    · rfl

theorem hearLatest_pending (l : Epoch) : (s.hearLatest l).pending = s.pending := by
  unfold State.hearLatest
  split
  · split
    · exact abandonAsked_pending true
    · rfl
  · rfl

/-! ### The Peer View and the sweeps -/

@[simp] theorem removeStation_pending (st : Station) (u : UserRec) : (s.removeStation st u).pending = s.pending := by
  unfold State.removeStation
  split <;> rfl

@[simp] theorem completeDrop_pending (st : Station) (k : Nat) : (s.completeDrop st k).pending = s.pending := rfl

@[simp] theorem continueDrop_pending (st : Station) (p : Option Nat) (k : Nat) : (s.continueDrop st p k).pending = s.pending := by
  unfold State.continueDrop
  split <;> rfl

theorem dropStep_pending (st : Station) (p : Option Nat) (k : Nat) : (s.dropStep st p k).pending = s.pending := by
  unfold State.dropStep
  split
  · exact completeDrop_pending st k
  · rw [continueDrop_pending, removeStation_pending]

theorem serveDropStep_pending : s.serveDropStep.pending = s.pending := by
  unfold State.serveDropStep
  simp only []
  split
  · split
    · rw [dropStep_pending, settle_pending]
    · rfl
  all_goals rfl

theorem peerDrop_pending (n : Nat) : (peerDrop n s).1.pending = s.pending := by
  unfold peerDrop
  split
  · simp only []
    iterate 3 (split; · rfl)
    exact continueDrop_pending _ _ _
  · rfl

theorem cutDrop_pending (st : Station) (served : Bool) : (s.cutDrop st served).pending = s.pending := by
  unfold State.cutDrop
  split
  · rfl
  · rfl
  · split
    · split
      · rfl
      · exact removeStation_pending st _
    · rfl

theorem hear_pending (st : Station) (served : Bool) : (s.hear st served).pending = s.pending := by
  unfold State.hear
  split
  · rfl
  · simp only []
    split
    · rfl
    · rfl
    · exact cutDrop_pending st served

theorem receiveUsage_pending (st : Station) (n x : Nat) : (receiveUsage st n x s).pending = s.pending := by
  unfold receiveUsage
  split <;> rfl

theorem receivePresence_pending (st : Station) (l : Option Epoch) : (receivePresence st l s).pending = s.pending := by
  unfold receivePresence
  cases l with
  | none => rfl
  | some l => exact hearLatest_pending l

theorem visitDigest_pending (u : UserRec) : (s.visitDigest u).pending = s.pending := by
  unfold State.visitDigest
  simp only []
  split <;> rfl

theorem serveDigestVisit_pending : s.serveDigestVisit.pending = s.pending := by
  unfold State.serveDigestVisit
  simp only []
  split
  · split
    · rfl
    · rw [visitDigest_pending, settle_pending]
  · rfl

theorem digestResume_pending : (digestResume s).1.pending = s.pending := by
  unfold digestResume
  simp only []
  split <;> rfl

theorem reachGap_pending : s.reachGap.pending = s.pending := by
  unfold State.reachGap
  split <;> rfl

@[simp] theorem endScan_pending : s.endScan.pending = s.pending := by
  unfold State.endScan
  split
  · rfl
  · split <;> rfl

@[simp] theorem continueScan_pending : s.continueScan.pending = s.pending := by
  unfold State.continueScan
  split
  · exact endScan_pending
  · rfl

theorem visitGrace_pending (u : UserRec) : (s.visitGrace u).pending = s.pending := by
  unfold State.visitGrace
  split <;> rfl

theorem scanVisit_pending : s.scanVisit.pending = s.pending := by
  unfold State.scanVisit
  split
  · exact endScan_pending
  · exact continueScan_pending.trans (visitGrace_pending _)

theorem serveScanVisit_pending : s.serveScanVisit.pending = s.pending := by
  unfold State.serveScanVisit
  simp only []
  split
  · rw [scanVisit_pending, settle_pending]
  · rfl

theorem peerQuery_pending (n : Nat) : (peerQuery n s).1.pending = s.pending := by
  unfold peerQuery
  split
  · simp only []
    split <;> rfl
  · rfl

end Sys2Proof.Machine
end

section
/-! PROOFS. The Duplication Unit, the Peer Line, the Timebase and the station's own commands leave the queue of commands alone; so every command
answers and leaves it, and the step takes its front (log 3, log 4). -/

namespace Sys2Proof.Machine

variable {s : State}

/-! ### The Duplication Unit -/

@[simp] theorem modifyWorkEpoch_pending (w : DupWork) (f : CatEntry → CatEntry) : (s.modifyWorkEpoch w f).pending = s.pending := by
  rw [modifyWorkEpoch_frame]

theorem dupExtent_pending (e : Epoch) (token : Token) (units : Nat) : (dupExtent e token units s).1.pending = s.pending := by
  unfold dupExtent
  iterate 2 (split; · rfl)
  split
  · rfl
  · iterate 3 (split; · rfl)
    rfl

theorem dupEnd_pending (e : Epoch) : (dupEnd e s).1.pending = s.pending := by
  unfold dupEnd
  split
  · rfl
  · iterate 2 (split; · rfl)
    rfl

theorem dupHalt_pending : (dupHalt s).1.pending = s.pending := by
  unfold dupHalt
  split <;> rfl

theorem windowOpen_pending : (windowOpen s).1.pending = s.pending := by
  unfold windowOpen
  split <;> rfl

theorem windowClose_pending : (windowClose s).1.pending = s.pending := by
  unfold windowClose
  split <;> rfl

theorem grantHead_pending (i : Fin 8) (q : DupEntry) (rest : List DupEntry) : (grantHead i q rest s).1.pending = s.pending := by
  unfold grantHead
  split
  · rfl
  · split
    · rfl
    · exact modifyWorkEpoch_pending _ _
  · split
    · rfl
    · exact modifyWorkEpoch_pending _ _

theorem grantTake_pending : (grantTake s).1.pending = s.pending := by
  unfold grantTake
  split
  · rfl
  · split
    · rfl
    · split
      · rfl
      · split
        · rfl
        · split
          · rfl
          · exact grantHead_pending _ _ _

@[simp] theorem freeGrantSlot_pending (i : Fin 8) (g : Grant) : (s.freeGrantSlot i g).pending = s.pending := modifyWorkEpoch_pending _ _

@[simp] theorem returnEntry_pending (w : DupWork) (retries : Nat) : (s.returnEntry w retries).pending = s.pending := by
  rw [returnEntry_frame]

@[simp] theorem returnGrants_pending : s.returnGrants.pending = s.pending := by rw [returnGrants_frame]

theorem grantSucceeds_pending (i : Fin 8) (g : Grant) : (s.grantSucceeds i g).pending = s.pending := by
  unfold State.grantSucceeds
  simp only []
  split <;> simp

theorem grantDropped_pending (i : Fin 8) (g : Grant) : (s.grantDropped i g).pending = s.pending := by
  unfold State.grantDropped
  simp only []
  split <;> simp

theorem grantDone_pending (handle : Nat) (failed : Bool) : (grantDone handle failed s).1.pending = s.pending := by
  unfold grantDone
  split
  · rfl
  · split
    · rfl
    · split
      · split
        · exact (returnEntry_pending _ _).trans (freeGrantSlot_pending _ _)
        · exact grantDropped_pending _ _
      · exact grantSucceeds_pending _ _

/-! ### The Peer Line -/

theorem startSending_pending : s.startSending.pending = s.pending := by
  have hset := settle_pending s
  unfold State.startSending
  generalize s.settle = v at hset
  simp only []
  split
  · exact hset
  all_goals rfl

theorem loseArbitration_pending (bit : Nat) : (s.loseArbitration bit).pending = s.pending := by
  unfold State.loseArbitration
  simp only []
  split
  · rw [setLine_pending, abandonAttempt_pending, settle_pending]
  · rfl

theorem meetClash_pending (bit : Nat) : (s.meetClash bit).pending = s.pending := by
  unfold State.meetClash
  simp only []
  split
  · split
    · rfl
    · rw [raise_pending, setLine_pending, endTransmission_pending, settle_pending]
  · rfl

theorem meetChange_pending (byStart : Bool) : (s.meetChange byStart).pending = s.pending := by
  unfold State.meetChange
  simp only []
  split
  · split <;> rw [setLine_pending, abandonAttempt_pending, settle_pending]
  · rfl

@[simp] theorem actOnSlots_pending (slotA slotR : Bool) : (s.actOnSlots slotA slotR).pending = s.pending := by
  unfold State.actOnSlots
  split
  · exact endTransmission_pending _
  · split
    · exact endTransmission_pending _
    · exact failAttempt_pending

theorem endAttempt_pending (slotA slotR : Bool) : (s.endAttempt slotA slotR).pending = s.pending := by
  unfold State.endAttempt
  simp only []
  split
  · rw [setLine_pending, actOnSlots_pending, settle_pending]
  · rfl

theorem verdict_pending (f : SampledFrame) (n : Notice) : (s.verdict f n).pending = s.pending := by
  unfold State.verdict
  simp only []
  iterate 4 (split; · rfl)
  rfl

theorem judgeFrame_pending (f : SampledFrame) : (s.judgeFrame f).pending = s.pending := by
  have hset := settle_pending s
  unfold State.judgeFrame
  generalize s.settle = v at hset
  simp only []
  split
  · split
    · split
      · exact hset
      · rw [verdict_pending, hset]
    · rfl
  all_goals rfl

theorem stretchLimit_pending : s.stretchLimit.pending = s.pending := by
  unfold State.stretchLimit
  split
  · split <;> rfl
  all_goals rfl

theorem frameStops_pending (served : Bool) : (s.frameStops served).pending = s.pending := by
  have hset := settle_pending s
  unfold State.frameStops
  generalize s.settle = v at hset
  simp only []
  split
  · rfl
  · rw [hear_pending, setLine_pending]
    exact hset

theorem breakFrame_pending (how : FrameBreak) : (s.breakFrame how).pending = s.pending := by
  unfold State.breakFrame
  split
  · cases how <;> rfl
  · rfl

theorem anotherStart_pending : s.anotherStart.pending = s.pending := by
  unfold State.anotherStart
  split <;> rfl

theorem strayFall_pending : s.strayFall.pending = s.pending := by
  unfold State.strayFall
  split <;> rfl

theorem busyEnds_pending : s.busyEnds.pending = s.pending := by
  unfold State.busyEnds
  split <;> rfl

theorem gapEnds_pending : s.gapEnds.pending = s.pending := by
  unfold State.gapEnds
  split <;> rfl

theorem attached_pending : s.attached.pending = s.pending := by
  unfold State.attached
  split <;> rfl

@[simp] theorem dropFrame_pending : s.dropFrame.pending = s.pending := rfl

theorem stick_pending (w : Wires) : (s.stick w).pending = s.pending := by
  unfold State.stick
  simp only []
  split
  · rw [raise_pending, setLine_pending, dropFrame_pending]
    split <;> simp
  · rfl

theorem unstick_pending : s.unstick.pending = s.pending := by
  unfold State.unstick
  simp only []
  split
  · rw [raise_pending, setLine_pending, settle_pending]
  · rfl

/-! ### The Timebase -/

@[simp] theorem switchBack_pending : s.switchBack.pending = s.pending := by rw [switchBack_frame]

@[simp] theorem beacon_pending : s.beacon.pending = s.pending := by rw [beacon_frame]

@[simp] theorem windowBoundary_pending : s.windowBoundary.pending = s.pending := by rw [windowBoundary_frame]

@[simp] theorem boundaryOffers_pending (windowFirst : Bool) : (s.boundaryOffers windowFirst).pending = s.pending := by
  unfold State.boundaryOffers State.windowThenBeacon
  split <;> simp

@[simp] theorem startScan_pending : s.startScan.pending = s.pending := by
  unfold State.startScan
  split
  · rfl
  · exact continueScan_pending

theorem boundary_pending (windowFirst : Bool) : (s.boundary windowFirst).pending = s.pending := by
  have hset := settle_pending s
  unfold State.boundary
  generalize s.settle = v at hset
  calc (v.advanceFrame.switchBack.agePeers.boundaryOffers windowFirst).tickCatalogue.tickJobs.startScan.pending
    _ = (v.advanceFrame.switchBack.agePeers.boundaryOffers windowFirst).pending := startScan_pending
    _ = v.advanceFrame.switchBack.pending := boundaryOffers_pending windowFirst
    _ = v.pending := switchBack_pending
    _ = s.pending := hset

theorem frameExpiry_pending (windowFirst : Bool) : (s.frameExpiry windowFirst).pending = s.pending := by
  unfold State.frameExpiry
  split
  · rfl
  · exact boundary_pending windowFirst

theorem fallBack_pending (count : Nat) : (s.fallBack count).pending = s.pending := rfl

/-- A loss of the reference does nothing, falls back, or falls back and brings the boundary at once (R175, log 18). -/
theorem loseReference_cases (s : State) (count : Nat) (windowFirst : Bool) :
    s.loseReference count windowFirst = s ∨ s.loseReference count windowFirst = s.settle.fallBack count ∨
    s.loseReference count windowFirst = (s.settle.fallBack count).boundary windowFirst := by
  unfold State.loseReference
  split
  · simp only []
    split
    · exact .inr (.inr rfl)
    · exact .inr (.inl rfl)
  · exact .inl rfl

theorem loseReference_pending (count : Nat) (windowFirst : Bool) : (s.loseReference count windowFirst).pending = s.pending := by
  rcases loseReference_cases s count windowFirst with h | h | h
  · rw [h]
  · rw [h, fallBack_pending, settle_pending]
  · rw [h, boundary_pending, fallBack_pending, settle_pending]

theorem referenceAbsent_pending : s.referenceAbsent.pending = s.pending := by
  unfold State.referenceAbsent
  split <;> rfl

theorem timebaseRetry_pending : (timebaseRetry s).1.pending = s.pending := by
  unfold timebaseRetry
  split <;> rfl

/-! ### The station's own commands -/

theorem accept_pending (c : Settings) : (s.accept c).pending = s.pending := by
  unfold State.accept
  simp only []
  split <;> rfl

theorem configure_pending (c : Settings) : (configure c s).1.pending = s.pending := by
  unfold configure
  split
  · rfl
  · split
    · exact accept_pending c
    · rfl

theorem takeRestart_pending : s.takeRestart.pending = s.pending := by
  have hset := settle_pending s
  unfold State.takeRestart
  generalize s.settle = v at hset
  rw [finishRestart_pending]
  exact returnGrants_pending.trans hset

theorem takeAtOnce_pending (c : Byte) {handle : State → Answer} (hHandle : ∀ v : State, (handle v).1.pending = v.pending) :
    (s.takeAtOnce c handle).pending = s.pending :=
  (hHandle _).trans (settle_pending s)

theorem takeAccess_pending (a : Access) : (s.takeAccess a).pending = s.pending := by
  have hset := settle_pending s
  unfold State.takeAccess
  generalize s.settle = v at hset
  exact hset

theorem handOver_pending (r : Request) : (handOver r s).pending = s.pending := by
  cases r with
  | nop => rfl
  | configure c => exact takeAtOnce_pending _ fun _ => configure_pending c
  | restart => exact takeRestart_pending
  | stationQuery => exact takeAtOnce_pending _ fun _ => rfl
  | readCause => exact takeAtOnce_pending _ fun _ => rfl
  | timebaseRetry => exact takeAtOnce_pending _ fun _ => timebaseRetry_pending
  | access a => exact takeAccess_pending a
  | peerQuery st => exact takeAtOnce_pending _ fun _ => peerQuery_pending st
  | peerDrop st => exact takeAtOnce_pending _ fun _ => peerDrop_pending st
  | digestHold => exact takeAtOnce_pending _ fun _ => rfl
  | digestResume => exact takeAtOnce_pending _ fun _ => digestResume_pending
  | snapTake => exact takeAtOnce_pending _ fun _ => snapTake_pending
  | snapReady e => exact takeAtOnce_pending _ fun _ => snapReady_pending e
  | snapQuery e m => exact takeAtOnce_pending _ fun _ => rfl
  | snapExpire e d => exact takeAtOnce_pending _ fun _ => snapExpire_pending e d
  | dupExtent e t n => exact takeAtOnce_pending _ fun _ => dupExtent_pending e t n
  | dupEnd e => exact takeAtOnce_pending _ fun _ => dupEnd_pending e
  | dupHalt => exact takeAtOnce_pending _ fun _ => dupHalt_pending
  | windowOpen => exact takeAtOnce_pending _ fun _ => windowOpen_pending
  | windowClose => exact takeAtOnce_pending _ fun _ => windowClose_pending
  | grantTake => exact takeAtOnce_pending _ fun _ => grantTake_pending
  | grantDone x f => exact takeAtOnce_pending _ fun _ => grantDone_pending x f
  | dupQuery => exact takeAtOnce_pending _ fun _ => rfl

/-- The end of a transaction, its request handed over (R182, R183). -/
theorem endTransaction_pending (record : Record) (trailing : Bool) : (s.endTransaction record trailing handOver).pending = s.pending :=
  endTransaction_keeps (fun v => v.pending = s.pending) handOver (fun _ _ _ hv => hv) (fun _ _ hv => hv) (fun _ _ _ _ _ hv => hv)
    (fun r _ _ hv => (handOver_pending r).trans hv) record trailing s rfl

theorem startTransaction_pending : s.startTransaction.pending = s.pending := by
  unfold State.startTransaction
  split
  · rfl
  · split <;> rfl

theorem releaseReset_pending (straps : Station) : (s.releaseReset straps).pending = s.pending := by
  unfold State.releaseReset
  split <;> rfl

/-! ### Accesses and receipts -/

theorem accessAnswer_pending (a : Access) : (accessAnswer a s).1.pending = s.pending := by
  cases a with
  | charge n k => exact chargeAccess_pending n k
  | credit n k => exact creditAccess_pending n k
  | userLoad n soft hard live => exact userLoadAccess_pending n soft hard live
  | userLimits n soft hard => exact userLimitsAccess_pending n soft hard
  | userFreeze n => exact userFreezeAccess_pending n
  | userThaw n => exact userThawAccess_pending n
  | userRetire n => exact userRetireAccess_pending n
  | userQuery n => exact withUser_pending _ _ fun _ => rfl
  | userResync n => exact userResyncAccess_pending n
  | userWatch n => exact userWatchAccess_pending n
  | userUnwatch n => exact userUnwatchAccess_pending n
  | hold n e k => exact holdAccess_pending n e k
  | restoreBegin n e k => exact restoreBeginAccess_pending n e k
  | restoreProgress x k => exact restoreProgressAccess_pending x k
  | restoreEnd x => exact restoreEndAccess_pending x

theorem accessRequest_pending (a : Access) : (s.accessRequest a (accessAnswer a)).pending = s.pending :=
  accessRequest_keeps (fun v => v.pending = s.pending) a (accessAnswer a) (fun v hv => (settle_pending v).trans hv) (fun _ hv => hv)
    (fun _ hv => (accessAnswer_pending a).trans hv) (fun _ _ hv => hv) (fun _ _ _ _ _ hv => hv) s rfl

theorem receive_pending {α : Type} (pick : Notice → Option α) {act : Station → α → State → State}
    (hAct : ∀ st a (v : State), (act st a v).pending = v.pending) : (s.receive pick act).pending = s.pending :=
  receive_keeps (fun v => v.pending = s.pending) pick act (fun v hv => (settle_pending v).trans hv) (fun _ hv => hv)
    (fun st a v hv => (hAct st a v).trans hv) s rfl

theorem serveUsage_pending : s.serveUsage.pending = s.pending := by
  unfold State.serveUsage
  split
  · exact receive_pending _ fun st r _ => receiveUsage_pending st r.1 r.2
  · rfl

/-! ### Every command -/

/-- A command that ends a transaction with its request. -/
theorem exec_request_pending (r : Request) : ∃ t, exec r.command s = .next t ∧ t.pending = s.pending :=
  ⟨_, exec_command s r, endTransaction_pending (.request r) false⟩

/-- A command that serves a waiting access. -/
theorem exec_access_pending (a : Access) : ∃ t, exec a.command s = .next t ∧ t.pending = s.pending :=
  ⟨_, exec_access a s, accessRequest_pending a⟩

/-- Settles O2, by the command: a request's, an access's, or an event of its own with the block's work that it runs. -/
theorem everyCommandAnswersAndLeavesTheQueue : Obligations.EveryCommandAnswersAndLeavesTheQueue := by
  intro c s
  cases c with
  -- Power, RESET and the edges of a transaction.
  | powerOn refclk => exact ⟨_, rfl, rfl⟩
  | resetPinAssert => exact ⟨_, rfl, rfl⟩
  | resetPinRelease straps => exact ⟨_, rfl, releaseReset_pending straps⟩
  | transactionStart => exact ⟨_, rfl, startTransaction_pending⟩
  | replyDelivered =>
    refine ⟨_, rfl, ?_⟩
    split <;> rfl
  | linkTransactionOther edges ldi => exact ⟨_, rfl, endTransaction_pending _ _⟩
  -- The requests.
  | localRequestTaken a => exact exec_request_pending (.access a)
  | nop => exact exec_request_pending .nop
  | configure c => exact exec_request_pending (.configure c)
  | restart => exact exec_request_pending .restart
  | stationQuery => exact exec_request_pending .stationQuery
  | readCause => exact exec_request_pending .readCause
  | timebaseRetry => exact exec_request_pending .timebaseRetry
  | peerQuery st => exact exec_request_pending (.peerQuery st)
  | peerDrop st => exact exec_request_pending (.peerDrop st)
  | digestHold => exact exec_request_pending .digestHold
  | digestResume => exact exec_request_pending .digestResume
  | snapTake => exact exec_request_pending .snapTake
  | snapReady e => exact exec_request_pending (.snapReady e)
  | snapQuery e m => exact exec_request_pending (.snapQuery e m)
  | snapExpire e d => exact exec_request_pending (.snapExpire e d)
  | dupExtent e t n => exact exec_request_pending (.dupExtent e t n)
  | dupEnd e => exact exec_request_pending (.dupEnd e)
  | dupHalt => exact exec_request_pending .dupHalt
  | windowOpen => exact exec_request_pending .windowOpen
  | windowClose => exact exec_request_pending .windowClose
  | grantTake => exact exec_request_pending .grantTake
  | grantDone x f => exact exec_request_pending (.grantDone x f)
  | dupQuery => exact exec_request_pending .dupQuery
  -- The accesses of waiting requests, and the other clients of class 1.
  | charge n k => exact exec_access_pending (.charge n k)
  | credit n k => exact exec_access_pending (.credit n k)
  | userLoad n soft hard live => exact exec_access_pending (.userLoad n soft hard live)
  | userLimits n soft hard => exact exec_access_pending (.userLimits n soft hard)
  | userFreeze n => exact exec_access_pending (.userFreeze n)
  | userThaw n => exact exec_access_pending (.userThaw n)
  | userRetire n => exact exec_access_pending (.userRetire n)
  | userQuery n => exact exec_access_pending (.userQuery n)
  | userResync n => exact exec_access_pending (.userResync n)
  | userWatch n => exact exec_access_pending (.userWatch n)
  | userUnwatch n => exact exec_access_pending (.userUnwatch n)
  | hold n e k => exact exec_access_pending (.hold n e k)
  | restoreBegin n e k => exact exec_access_pending (.restoreBegin n e k)
  | restoreProgress x k => exact exec_access_pending (.restoreProgress x k)
  | restoreEnd x => exact exec_access_pending (.restoreEnd x)
  | idleTimeoutRelease => exact ⟨_, rfl, serveIdleRelease_pending⟩
  | restartRelease => exact ⟨_, rfl, serveRestartRelease_pending⟩
  -- Frame boundaries, and what follows them.
  | frameBoundary windowFirst => exact ⟨_, rfl, frameExpiry_pending windowFirst⟩
  | peerGoneAge st => exact ⟨_, rfl, agePeer_pending st⟩
  | askTimerExpiry => exact ⟨_, rfl, expireAsk_pending⟩
  | closeTimerExpiry e => exact ⟨_, rfl, expireClose_pending e⟩
  | idleLimitReached slot =>
    refine ⟨_, rfl, ?_⟩
    split
    · exact offerRelease_pending slot
    · rfl
  | windowLimitExpiry => exact ⟨_, rfl, expireWindow_pending⟩
  | gapTimerReached => exact ⟨_, rfl, reachGap_pending⟩
  | referenceFallback count windowFirst => exact ⟨_, rfl, loseReference_pending count windowFirst⟩
  | referenceEdgeReturns => exact ⟨_, rfl, rfl⟩
  | referenceMonitorAbsent => exact ⟨_, rfl, referenceAbsent_pending⟩
  -- The scans and the sweeps.
  | graceScanVisit => exact ⟨_, rfl, serveScanVisit_pending⟩
  | digestSweepVisit => exact ⟨_, rfl, serveDigestVisit_pending⟩
  | expirySweepStep => exact ⟨_, rfl, serveExpiryStep_pending⟩
  | dropSweepStep => exact ⟨_, rfl, serveDropStep_pending⟩
  -- The receipts.
  | usageReceipt => exact ⟨_, rfl, serveUsage_pending⟩
  | epochProposeReceipt => exact ⟨_, rfl, receive_pending _ fun st e _ => receiveProposal_pending st e⟩
  | epochReadyReceipt => exact ⟨_, rfl, receive_pending _ fun st e _ => receiveReady_pending st e⟩
  | epochLatestReceipt => exact ⟨_, rfl, receive_pending _ fun _ l _ => hearLatest_pending l⟩
  | shareReceipt => exact ⟨_, rfl, receive_pending _ fun _ _ _ => rfl⟩
  | presenceReceipt => exact ⟨_, rfl, receive_pending _ fun st l _ => receivePresence_pending st l⟩
  -- The Peer Line.
  | noticeSendStart => exact ⟨_, rfl, startSending_pending⟩
  | arbitrationLost bit => exact ⟨_, rfl, loseArbitration_pending bit⟩
  | stationNumberClash bit => exact ⟨_, rfl, meetClash_pending bit⟩
  | sendAttemptEnd slotA slotR => exact ⟨_, rfl, endAttempt_pending slotA slotR⟩
  | retiringRecordFreed n => exact ⟨_, rfl, freeRetired_pending n⟩
  | reportDueAfterLoss n => exact ⟨_, rfl, dueAfterLoss_pending n⟩
  | noticeVerdict frame => exact ⟨_, rfl, judgeFrame_pending frame⟩
  | stretchTimeout => exact ⟨_, rfl, stretchLimit_pending⟩
  | stretchEntryFreed => exact ⟨_, rfl, takeStretched_pending⟩
  | noticeAvailable served => exact ⟨_, rfl, frameStops_pending served⟩
  | frameBroken how => exact ⟨_, rfl, breakFrame_pending how⟩
  | strayClocking => exact ⟨_, rfl, strayFall_pending⟩
  | busyTimeout => exact ⟨_, rfl, busyEnds_pending⟩
  | idleGapEnd => exact ⟨_, rfl, gapEnds_pending⟩
  | attachmentEnd => exact ⟨_, rfl, attached_pending⟩
  | lineStuck wires => exact ⟨_, rfl, stick_pending wires⟩
  | lineRestored => exact ⟨_, rfl, unstick_pending⟩
  | anotherStationStart => exact ⟨_, rfl, anotherStart_pending⟩
  | attemptAbandoned byStart => exact ⟨_, rfl, meetChange_pending byStart⟩

/-! ### The step -/

/-- The front command runs on the machine with the rest of the queue (log 4). -/
theorem step_cons (c : Instr) (rest : List Instr) (s : State) : step { s with pending := c :: rest } = exec c { s with pending := rest } := rfl

/-- With no command waiting the machine idles (log 4). -/
theorem step_nil (h : s.pending = []) : step s = .next s := by
  unfold step
  rw [h]

/-- Settles O1, by the two forms of the queue. -/
theorem stepRunsFrontCommand : Obligations.StepRunsFrontCommand :=
  ⟨step_cons, fun _ => step_nil rfl⟩

end Sys2Proof.Machine
end
